-- ==== Sys2Proof/Word.lean ====
section
/-! DEFINITION. The one word type of the part: the octet that its serial links and its serial memory carry. -/

namespace Sys2Proof

/-- One octet of a frame, of a payload or of the stored image (R173, R186). Every other quantity of the
handbook is a whole number in a fixed unit, with exact arithmetic, and is a `Nat` or an `Int` here. -/
abbrev Octet := BitVec 8

end Sys2Proof
end

