-- ==== Sys2Proof/Syntax.lean ====
section
/-! DEFINITION. The commands of the part: one constructor of `Instr` for each row of the table of operations and
events, and `Request`, the requests that a frame on a station port spells. -/

namespace Sys2Proof

/-! ## The part's fixed numbers of things (Numbering, 00_scope) -/

/-- Station ports P0 to P3. -/
abbrev Port := Fin 4
/-- Meter slots S0 to S7. -/
abbrev Slot := Fin 8
/-- The four positions of a meter slot. -/
abbrev Position := Fin 4
/-- Metering channels C00 to C31. -/
abbrev Chan := Fin 32
/-- Furnaces F0 to F3. -/
abbrev Furnace := Fin 4
/-- Forming lines L0 to L11. -/
abbrev Line := Fin 12
/-- The 53 configuration regions by number (R156). -/
abbrev RegionNo := Fin 53

/-- The value of a STAGE_WRITE, in the forms R156 gives: yes or no, a number (an enumerated value is its number),
a trim, an entry list (consumer index and weight), a port rank, or text. -/
inductive StageValue where
  | flag (yes : Bool)
  | num (n : Nat)
  | trim (t : Int)
  | entries (l : List (Nat × Nat))
  | ranks (l : List Nat)
  | text (cs : List Octet)
deriving DecidableEq, Repr

/-- A poll of a meter slot: the slot, and the number of the poll, counted at the slot. The model's own, log entry 6. -/
structure PollRef where
  slot   : Slot
  number : Nat
deriving DecidableEq, Repr

/-- A request with its arguments, as its defining rule names them (R178). Enumerated arguments are the number
R178 gives them. A number outside the range of its rule can be written, and is refused by the rule's checks. -/
inductive Request where
  | status
  | meterPost (channel value : Nat) (tag : Option Nat)
  | channelRead (channel : Nat)
  | channelRebase (channel : Nat)
  | setSwitch (carrier set : Nat)
  | slotRead (slot : Nat)
  | liveRead (scope : Nat)
  | chargePost (furnace serial batch cullet : Nat)
  | furnaceHold (furnace : Nat)
  | furnaceResume (furnace : Nat)
  | furnaceShutdown (furnace : Nat)
  | furnaceWarm (furnace : Nat)
  | queueRead (furnace start : Nat)
  | jobStart (line jobId gobMass gobsPerCut articleMass : Nat)
  | jobReady (line : Nat)
  | tallyPost (line jobId cuts packed : Nat)
  | lineHold (line : Nat)
  | lineResume (line : Nat)
  | lineShutdown (line : Nat)
  | lineWarm (line : Nat)
  | stateRead (line : Nat)
  | timeSet (t : Nat)
  | intervalRead
  | intervalReadAt (number : Nat)
  | cursorSet (place : Nat)
  | totalsRead (consumer : Nat)
  | campaignReset (consumer : Nat)
  | clearCounts
  | proveStart (channel duration : Nat)
  | proveStop
  | proveApply (channel : Nat)
  | lock (region mode : Nat)
  | lockCancel
  | stageWrite (region field : Nat) (value : StageValue)
  | configRead (region which : Nat)
  | release (action : Nat)
  | alertRead
  | alertClear (source : Nat)
  | alertMask (levels : Nat)
  | save
deriving DecidableEq, Repr

/-- A request frame without its start octet, length and check: tag, command code and payload (R173). -/
structure Frame where
  tag     : Octet
  code    : Octet
  payload : List Octet
deriving DecidableEq, Repr

/-- The commands of the block, one constructor per row of the table of operations and events.

The first group are the events of the part's own clock, of its slots, of its prover input, of its station links and
of its memory link. The second group are the requests: each is the step in which the request of a port is taken
(R175), with the port, the tag of its frame and its arguments. -/
inductive Instr where
  | hardwareReset
  /-- The image read ends; `answered` says that every access of it was answered within 100 ms (R186). -/
  | configLoadDone (answered : Bool)
  | plantTimeTick
  | intervalExpiry
  | plantTimeWrap
  | closingPoolSettle (c : Chan)
  | closeEnd
  /-- The presence lines of a slot now stand at `a`, `b` (true: asserted). -/
  | presenceChange (sl : Slot) (a b : Bool)
  /-- The code lines of a slot now stand at `k1`, `k2` (true: grounded). -/
  | codeLineChange (sl : Slot) (k1 k2 : Bool)
  | settleTimerExpiry (sl : Slot)
  | partialTimerExpiry (sl : Slot)
  | pulseInput (sl : Slot) (pos : Position)
  | pulseSample
  | pollStart (sl : Slot)
  /-- A reply on a slot's meter bus: the poll that the meter answers, whether its check passed, the address it names and
  its value (2.5). -/
  | pollReply (poll : PollRef) (checkPassed : Bool) (address value : Nat)
  | replyLimitExpiry (sl : Slot)
  | staleTimeExpiry (c : Chan)
  | referencePulse
  | proveExpiry
  | holdTimerExpiry (l : Line)
  /-- An octet on a port's receive line; `stopOk` is false for a framing fault (R171). -/
  | octetReceived (p : Port) (o : Octet) (stopOk : Bool)
  | gapExpiry (p : Port)
  | lineBreak (p : Port)
  | replySent (p : Port)
  /-- A request whose command code is not in the command table. -/
  | badCommand (p : Port) (tag code : Octet) (payload : List Octet)
  | status (p : Port) (tag : Octet)
  | meterPost (p : Port) (tag : Octet) (channel value : Nat) (postTag : Option Nat)
  | channelRead (p : Port) (tag : Octet) (channel : Nat)
  | channelRebase (p : Port) (tag : Octet) (channel : Nat)
  | setSwitch (p : Port) (tag : Octet) (carrier set : Nat)
  | slotRead (p : Port) (tag : Octet) (slot : Nat)
  | liveRead (p : Port) (tag : Octet) (scope : Nat)
  | chargePost (p : Port) (tag : Octet) (furnace serial batch cullet : Nat)
  | furnaceHold (p : Port) (tag : Octet) (furnace : Nat)
  | furnaceResume (p : Port) (tag : Octet) (furnace : Nat)
  | furnaceShutdown (p : Port) (tag : Octet) (furnace : Nat)
  | furnaceWarm (p : Port) (tag : Octet) (furnace : Nat)
  | queueRead (p : Port) (tag : Octet) (furnace start : Nat)
  | jobStart (p : Port) (tag : Octet) (line jobId gobMass gobsPerCut articleMass : Nat)
  | jobReady (p : Port) (tag : Octet) (line : Nat)
  | tallyPost (p : Port) (tag : Octet) (line jobId cuts packed : Nat)
  | lineHold (p : Port) (tag : Octet) (line : Nat)
  | lineResume (p : Port) (tag : Octet) (line : Nat)
  | lineShutdown (p : Port) (tag : Octet) (line : Nat)
  | lineWarm (p : Port) (tag : Octet) (line : Nat)
  | stateRead (p : Port) (tag : Octet) (line : Nat)
  | timeSet (p : Port) (tag : Octet) (t : Nat)
  | intervalRead (p : Port) (tag : Octet)
  | intervalReadAt (p : Port) (tag : Octet) (number : Nat)
  | cursorSet (p : Port) (tag : Octet) (place : Nat)
  | totalsRead (p : Port) (tag : Octet) (consumer : Nat)
  | campaignReset (p : Port) (tag : Octet) (consumer : Nat)
  | clearCounts (p : Port) (tag : Octet)
  | proveStart (p : Port) (tag : Octet) (channel duration : Nat)
  | proveStop (p : Port) (tag : Octet)
  | proveApply (p : Port) (tag : Octet) (channel : Nat)
  | lock (p : Port) (tag : Octet) (region mode : Nat)
  | lockCancel (p : Port) (tag : Octet)
  | stageWrite (p : Port) (tag : Octet) (region field : Nat) (value : StageValue)
  | configRead (p : Port) (tag : Octet) (region which : Nat)
  | release (p : Port) (tag : Octet) (action : Nat)
  | lockExpiry (r : RegionNo)
  | alertRead (p : Port) (tag : Octet)
  | alertClear (p : Port) (tag : Octet) (source : Nat)
  | alertMask (p : Port) (tag : Octet) (levels : Nat)
  | save (p : Port) (tag : Octet)
  | saveWriteAcknowledged
  | saveAccessTimeout
  | receiveLineReturnsToMark (p : Port)
deriving DecidableEq, Repr

end Sys2Proof
end

