-- ==== Sys2Proof/Decode.lean ====
section
/-! DEFINITION. The decoding of table words. The table of operations and events gives no row any bits, so no word spells a
command; the coding of requests in frames stands in Machine/Frames.lean and Machine/Requests.lean. -/

namespace Sys2Proof

/-- The command that a word spells by the table's bits: none, for no row gives bits (log entry 11). -/
def decodeTableWord (_nbits _w : Nat) : Option Instr := none

end Sys2Proof
end

