-- ==== Sys2Proof/Config.lean ====
section
/-! DEFINITION. What an implementation fixes and the handbook leaves open: the model's free value. -/

namespace Sys2Proof.Config

/-- FREE VALUE (log entry 1). R164 has a REJECTED reply carry "the field number concerned". Where a reason of
R165 concerns two or more fields at once (VALUE_RANGE: rollover modulus and rate ceiling), the handbook does
not say which one is named. The argument is the reason's number; the value, taken modulo the count of the
fields concerned, picks one. Nothing constrains it. -/
opaque concernedField : Nat → Nat

end Sys2Proof.Config
end

