-- ==== Sys2Proof/Machine/State.lean ====
section
/-! DEFINITION. The state of the part as plain data, block by block, its configuration, and the state right after reset.

Numbers are whole numbers in the handbook's units (`Nat`, or `Int` where the handbook has a sign). A time of the part's
own clock is in milliseconds (log entry 2); plant time is in seconds. -/

namespace Sys2Proof.Machine

/-! ## Configuration (R1, R18, R61, R86, R156) -/

/-- The four carriers, numbered 0 to 3 in this order. -/
inductive Carrier where
  | gas | elec | oxy | air
deriving DecidableEq, Repr

inductive Source where
  | slot | port
deriving DecidableEq, Repr

/-- The expected module of a SLOT channel. -/
inductive Expected where
  | pulse | serial
deriving DecidableEq, Repr

inductive ReadingKind where
  | total | delta
deriving DecidableEq, Repr

inductive SetName where
  | a | b
deriving DecidableEq, Repr

/-- The attribution modes (chapter 3). -/
inductive Mode where
  | fixed | driver | state | tagged
deriving DecidableEq, Repr

/-- Anything energy can be attributed to: consumer index 0 to 3, 4 to 15 and 16. -/
inductive Consumer where
  | furnace (f : Furnace)
  | line (l : Line)
  | common
deriving DecidableEq, Repr

/-- An entry of a channel's entry list (R45). -/
structure Entry where
  consumer : Consumer
  weight   : Nat
deriving DecidableEq, Repr

/-- A CHANNEL region (R1). -/
structure ChannelConfig where
  active      : Bool
  carrier     : Carrier
  source      : Source
  expected    : Expected
  kind        : ReadingKind
  modulus     : Nat
  pulseWeight : Nat
  address     : Nat
  pollPeriod  : Nat
  staleTime   : Nat
  rateCeiling : Nat
  set         : SetName
  trim        : Int
  mode        : Mode
  entries     : List Entry
deriving DecidableEq, Repr

/-- A CARRIER region: factor and trim of set A and of set B (R18). -/
structure CarrierConfig where
  factorA : Nat
  trimA   : Int
  factorB : Nat
  trimB   : Int
deriving DecidableEq, Repr

/-- A furnace's CONSUMER region (R61). -/
structure FurnaceConfig where
  enabled         : Bool
  loi             : Nat
  referenceCullet : Nat
  sensitivity     : Nat
  minimumMass     : Nat
  bandLow         : Nat
  bandHigh        : Nat
  openingMass     : Nat
  openingCullet   : Nat
deriving DecidableEq, Repr

/-- A line's CONSUMER region (R86). -/
structure LineConfig where
  enabled     : Bool
  feeding     : Furnace
  minimumMass : Nat
  bandLow     : Nat
  bandHigh    : Nat
deriving DecidableEq, Repr

/-- The PLANT region (R156). Lock and tally timeouts are in seconds. -/
structure PlantConfig where
  intervalLength : Nat
  rank           : List Port
  lockTimeout    : Nat
  tallyTimeout   : Nat
  proverWeight   : Nat
  plantIdentity  : List Octet
  unitIdentity   : List Octet
deriving DecidableEq, Repr

/-- A full configuration: the 53 regions. -/
structure Configuration where
  channels : Vector ChannelConfig 32
  carriers : Vector CarrierConfig 4
  furnaces : Vector FurnaceConfig 4
  lines    : Vector LineConfig 12
  plant    : PlantConfig
deriving DecidableEq, Repr

/-- One region's fields, as a staging copy holds them (R157). -/
inductive RegionValue where
  | channel (v : ChannelConfig)
  | carrier (v : CarrierConfig)
  | furnace (v : FurnaceConfig)
  | line (v : LineConfig)
  | plant (v : PlantConfig)
deriving DecidableEq, Repr

/-- R1: a blank channel is inactive and its other fields hold their lowest values, but for stale time 300. The lowest
entry list that the committed configuration may hold (R1, R45: one to six entries, FIXED weights summing to 1000) is
F0 weight 1000. DESIGN CHOICE, log entry 3. -/
def blankChannel : ChannelConfig :=
  { active := false, carrier := .gas, source := .slot, expected := .pulse, kind := .total, modulus := 1000,
    pulseWeight := 1, address := 1, pollPeriod := 5, staleTime := 300, rateCeiling := 1, set := .a, trim := -500,
    mode := .fixed, entries := [⟨.furnace 0, 1000⟩] }

/-- R18: factor 0 (unset) and trim 0 in both sets. -/
def blankCarrier : CarrierConfig := { factorA := 0, trimA := 0, factorB := 0, trimB := 0 }

/-- R61, the column of a blank configuration. -/
def blankFurnace : FurnaceConfig :=
  { enabled := false, loi := 170, referenceCullet := 500, sensitivity := 25, minimumMass := 500000, bandLow := 0,
    bandHigh := 999999, openingMass := 0, openingCullet := 0 }

/-- R86, the column of a blank configuration. -/
def blankLine : LineConfig :=
  { enabled := false, feeding := 0, minimumMass := 500000, bandLow := 0, bandHigh := 999999 }

/-- R156, the PLANT region of a blank configuration. -/
def blankPlant : PlantConfig :=
  { intervalLength := 60, rank := [0, 1, 2, 3], lockTimeout := 30, tallyTimeout := 60, proverWeight := 1000,
    plantIdentity := [], unitIdentity := [] }

/-- The blank configuration (R187). -/
def blankConfiguration : Configuration :=
  { channels := Vector.replicate 32 blankChannel, carriers := Vector.replicate 4 blankCarrier,
    furnaces := Vector.replicate 4 blankFurnace, lines := Vector.replicate 12 blankLine, plant := blankPlant }

/-! ## Channels (R2) -/

inductive OfflineCause where
  | slotNotReady | mismatch
deriving DecidableEq, Repr

/-- The channel states of 1.2. The offline cause is present in OFFLINE and nowhere else. -/
inductive ChannelState where
  | inactive
  | offline (cause : OfflineCause)
  | basing
  | live
  | stale
deriving DecidableEq, Repr

/-- The outcomes a prove record can hold, in the order of R23. -/
inductive ProveOutcome where
  | none | passed | aborted | noReference
deriving DecidableEq, Repr

/-- The result of a channel's last proving run (R154). -/
structure ProveRecord where
  outcome        : ProveOutcome
  deviation      : Int
  channelUnits   : Nat
  referenceUnits : Nat
  endTime        : Nat
deriving DecidableEq, Repr

/-- A channel record (R2). `carry` is in units of 10^-11 kJ. -/
structure ChannelRecord where
  state       : ChannelState
  base        : Option Nat
  lastReading : Nat
  carry       : Nat
  underProve  : Bool
  prove       : ProveRecord
deriving DecidableEq, Repr

/-! ## Meter slots (R25) -/

inductive ModuleType where
  | pulse4 | pulse4f | serial4
deriving DecidableEq, Repr

inductive RejectReason where
  | unrecognised | partly
deriving DecidableEq, Repr

/-- The slot states of 2.2. The module type is present in READY alone, the reject reason in REJECTED alone. -/
inductive SlotState where
  | empty
  | sensing
  | ready (m : ModuleType)
  | rejected (r : RejectReason)
deriving DecidableEq, Repr

/-- The four sense lines as last seen: presence A and B (true: asserted), code K1 and K2 (true: grounded). -/
structure Sense where
  a  : Bool
  b  : Bool
  k1 : Bool
  k2 : Bool
deriving DecidableEq, Repr

/-- A serial poll in flight: the position polled, the address named, and the own-clock time its reply limit ends. -/
structure Poll where
  position : Position
  address  : Nat
  limit    : Nat
deriving DecidableEq, Repr

/-- A position record (R25). `nextDue` is a time of the part's own clock. -/
structure PositionRecord where
  counter : Nat
  nextDue : Option Nat
  failed  : Nat
deriving DecidableEq, Repr

/-- A slot record (R25). A running timer is held as the own-clock time at which it expires. `polls` is the model's own:
the number of polls started at the slot so far, which numbers the poll in flight (log entry 6). -/
structure SlotRecord where
  state      : SlotState
  sense      : Sense
  settleDue  : Option Nat
  partialDue : Option Nat
  poll       : Option Poll
  polls      : Nat
  positions  : Vector PositionRecord 4
deriving DecidableEq, Repr

/-! ## Accounts and pools (R40, R51) -/

/-- The accumulators of a furnace's account in a bank (R40). -/
structure FurnaceSums where
  producing : Nat
  standby   : Nat
  melted    : Nat
  pulled    : Nat
  cullet    : Nat
  unbacked  : Nat
  drained   : Nat
deriving DecidableEq, Repr

/-- The accumulators of a line's account in a bank (R40). -/
structure LineSums where
  producing : Nat
  standby   : Nat
  pulled    : Nat
  packed    : Nat
  change    : Nat
deriving DecidableEq, Repr

/-- A bank: one account per consumer, the common energy, the metered energy and the saturated mark (R40). -/
structure Bank where
  furnaces  : Vector FurnaceSums 4
  lines     : Vector LineSums 12
  common    : Nat
  metered   : Nat
  saturated : Bool
deriving DecidableEq, Repr

/-- A channel's open pool and closing pool, in kJ (R51). -/
structure Pool where
  opened  : Nat
  closing : Nat
deriving DecidableEq, Repr

def FurnaceSums.zero : FurnaceSums :=
  { producing := 0, standby := 0, melted := 0, pulled := 0, cullet := 0, unbacked := 0, drained := 0 }

def LineSums.zero : LineSums := { producing := 0, standby := 0, pulled := 0, packed := 0, change := 0 }

/-- An emptied bank: every accumulator 0 and the saturated mark clear (R40). -/
def Bank.zero : Bank :=
  { furnaces := Vector.replicate 4 .zero, lines := Vector.replicate 12 .zero, common := 0, metered := 0,
    saturated := false }

/-! ## Furnaces (R63, R75) -/

inductive FurnaceState where
  | melting | hold | cold
deriving DecidableEq, Repr

/-- A record of a melt inventory queue (R75). -/
structure Charge where
  serial          : Nat
  arrival         : Nat
  originalMass    : Nat
  originalCullet  : Nat
  remainingMass   : Nat
  remainingCullet : Nat
deriving DecidableEq, Repr

/-- A furnace record (R63): the state is absent while the furnace is not enabled, the queue is oldest first. -/
structure FurnaceRecord where
  state           : Option FurnaceState
  lastSerial      : Nat
  lastCullet      : Nat
  queue           : List Charge
  inventoryMass   : Nat
  inventoryCullet : Nat
deriving DecidableEq, Repr

/-! ## Forming lines (R88, R89) -/

inductive LineState where
  | producing | jobChange | holdPending | hold | cold
deriving DecidableEq, Repr

/-- The state a line held when its last hold was asked. -/
inductive ResumeState where
  | producing | jobChange
deriving DecidableEq, Repr

/-- A job record with its tally bases (R89). -/
structure Job where
  id          : Nat
  gobMass     : Nat
  gobsPerCut  : Nat
  articleMass : Nat
  cutsBase    : Nat
  packedBase  : Nat
deriving DecidableEq, Repr

/-- A line record (R88). The running hold timer is held as the own-clock time at which it expires. -/
structure LineRecord where
  state    : Option LineState
  current  : Option Job
  previous : Option Job
  latched  : Option Job
  resume   : ResumeState
  holdDue  : Option Nat
deriving DecidableEq, Repr

/-! ## Interval engine (R110, R115) -/

/-- A furnace's part of a close's snapshot (R115). -/
structure FurnaceSnapshot where
  enabled         : Bool
  state           : Option FurnaceState
  minimumMass     : Nat
  bandLow         : Nat
  bandHigh        : Nat
  referenceCullet : Nat
  sensitivity     : Nat
deriving DecidableEq, Repr

/-- A line's part of a close's snapshot (R115). -/
structure LineSnapshot where
  enabled     : Bool
  state       : Option LineState
  minimumMass : Nat
  bandLow     : Nat
  bandHigh    : Nat
  feeding     : Furnace
deriving DecidableEq, Repr

/-- The snapshot of a close (R115). `lists` holds the entry list of each channel in DRIVER mode. -/
structure Snapshot where
  furnaces : Vector FurnaceSnapshot 4
  lines    : Vector LineSnapshot 12
  lists    : Vector (Option (List Entry)) 32
deriving DecidableEq, Repr

/-- The interval being closed while a close is in flight (R114, step 4). -/
structure Closing where
  number    : Nat
  startTime : Nat
  endTime   : Nat
  short     : Bool
  cleared   : Bool
  first     : Bool
  snapshot  : Snapshot
deriving DecidableEq, Repr

/-- A close that must begin when the one in flight ends (R110). -/
inductive Waiting where
  | none | expiry | wrap
deriving DecidableEq, Repr

/-- The record of the interval engine (R110). The close in flight mark is yes exactly while `closing` is present. -/
structure IntervalRecord where
  plantTime     : Nat
  timeSet       : Bool
  length        : Nat
  pendingLength : Option Nat
  number        : Nat
  startTime     : Nat
  endTime       : Option Nat
  cleared       : Bool
  first         : Bool
  closing       : Option Closing
  waiting       : Waiting
deriving DecidableEq, Repr

/-! ## Results ring and campaign totals (R131, R132, R136, R141) -/

/-- The quality mark of a specific energy figure (R126). -/
inductive Quality where
  | formed | notFormed | saturated
deriving DecidableEq, Repr

/-- A specific energy figure: an SE code and its mark. -/
structure Figure where
  code : Nat
  mark : Quality
deriving DecidableEq, Repr

/-- A furnace's entry of an interval record (R132). -/
structure FurnaceEntry where
  furnace   : Furnace
  state     : Option FurnaceState
  producing : Nat
  standby   : Nat
  pulled    : Nat
  melted    : Nat
  drained   : Nat
  unbacked  : Nat
  cullet    : Nat
  seFurnace : Figure
  seNorm    : Figure
  outOfBand : Bool
deriving DecidableEq, Repr

/-- A line's entry of an interval record (R132). -/
structure LineEntry where
  line      : Line
  state     : Option LineState
  producing : Nat
  standby   : Nat
  pulled    : Nat
  packed    : Nat
  change    : Nat
  meltShare : Nat
  seOwn     : Figure
  seTotal   : Figure
  sePacked  : Figure
  outOfBand : Bool
deriving DecidableEq, Repr

/-- An interval record (R131). Its entries, in consumer index order, are `furnaces` and then `lines`. -/
structure IntervalResult where
  number    : Nat
  startTime : Nat
  endTime   : Nat
  short     : Bool
  cleared   : Bool
  first     : Bool
  saturated : Bool
  metered   : Nat
  common    : Nat
  furnaces  : List FurnaceEntry
  lines     : List LineEntry
deriving DecidableEq, Repr

/-- A port's read cursor and GAP mark (R136). -/
structure Cursor where
  number : Nat
  gap    : Bool
deriving DecidableEq, Repr

/-- The four fields that each campaign account holds of its own (R141). -/
structure Since where
  interval   : Nat
  time       : Nat
  added      : Nat
  lowerBound : Bool
deriving DecidableEq, Repr

structure FurnaceAccount where
  sums  : FurnaceSums
  since : Since
deriving DecidableEq, Repr

structure LineAccount where
  sums      : LineSums
  meltShare : Nat
  since     : Since
deriving DecidableEq, Repr

structure CommonAccount where
  energy : Nat
  since  : Since
deriving DecidableEq, Repr

/-- The campaign totals (R141). -/
structure Totals where
  furnaces : Vector FurnaceAccount 4
  lines    : Vector LineAccount 12
  common   : CommonAccount
deriving DecidableEq, Repr

/-- A zeroed set of campaign totals whose accounts count from interval `n` and plant time `t` (R141). -/
def Totals.zeroed (n t : Nat) : Totals :=
  let since : Since := { interval := n, time := t, added := 0, lowerBound := false }
  { furnaces := Vector.replicate 4 { sums := .zero, since := since },
    lines := Vector.replicate 12 { sums := .zero, meltShare := 0, since := since },
    common := { energy := 0, since := since } }

/-! ## Prover (R147) -/

/-- The prover's state. Claimed channel, claiming port, end time (own clock) and pulse weight in use are present in
RUNNING alone. -/
inductive ProverState where
  | idle
  | running (channel : Chan) (port : Port) (endTime weight : Nat)
deriving DecidableEq, Repr

/-- The prover's record: its state and its two sums, which outlast the run. -/
structure Prover where
  state          : ProverState
  channelUnits   : Nat
  referenceUnits : Nat
deriving DecidableEq, Repr

/-! ## Region locks (R157) -/

/-- The holder of a region with what is present exactly while there is one: its staging copy and the own-clock time of
its last request naming the region. -/
structure Hold where
  port        : Port
  staging     : RegionValue
  lastRequest : Nat
deriving DecidableEq, Repr

/-- The lock record of a region. -/
structure LockRecord where
  hold     : Option Hold
  waitList : List Port
deriving DecidableEq, Repr

/-- A port's record in the lock table. -/
structure PortLock where
  held   : Option RegionNo
  waited : Option RegionNo
deriving DecidableEq, Repr

/-! ## Station ports (R170) -/

/-- The statuses of R179. -/
inductive Status where
  | ok | pending | queued | replaced | badCommand | badLength | starting | busy | range | notConfigured | wrongSource
  | tagRequired | duplicate | furnaceCold | furnaceNotMelting | linesActive | lineCold | wrongState | jobUnknown | noJob
  | locked | notHolder | holding | waiting | rejected | noRecord | notHeld | proverBusy | proverIdle
deriving DecidableEq, Repr

/-- A reply: the request's tag, a status and a payload (R177). -/
structure Reply where
  tag     : Octet
  status  : Status
  payload : List Octet
deriving DecidableEq, Repr

/-- The request in service together with the reply formed for it in the step in which it was taken (R175, R177). -/
structure Service where
  request : Frame
  reply   : Reply
deriving DecidableEq, Repr

/-- The receive state. In RECEIVING the port holds the partial frame and the own-clock time of its last octet. -/
inductive ReceiveState where
  | hunting
  | receiving (soFar : List Octet) (lastOctet : Nat)
deriving DecidableEq, Repr

/-- A port record (R170). `atSpace` is set from a break until the receive line returns to mark (R172). -/
structure PortRecord where
  receive   : ReceiveState
  service   : Option Service
  held      : Option Frame
  attention : Bool
  atSpace   : Bool
deriving DecidableEq, Repr

/-! ## Alerts (R182) -/

/-- A port's pending set and level mask. The pending set holds, for each source by code, its object set while the
source is pending; a strictly rising list stands for an object set (log entry 26). Bit l of the mask is set when level l
is masked. -/
structure AlertRecord where
  pending : Vector (Option (List Nat)) 19
  mask    : BitVec 4
deriving DecidableEq, Repr

/-! ## Stored image (R186, R189) -/

/-- What the image holds between its format number and its check: the regions, and each furnace's opening inventory
mass and opening cullet. -/
structure ImageBody where
  config      : Configuration
  inventories : Vector (Nat × Nat) 4
deriving DecidableEq, Repr

/-- The configuration image in the serial memory. -/
structure Image where
  format : Nat
  body   : ImageBody
  crc    : BitVec 32
deriving DecidableEq, Repr

/-- A save in flight: its snapshot, the count of its writes acknowledged so far, and the own-clock time at which the
access now on the memory link has gone unanswered for 100 ms. -/
structure Save where
  snapshot  : ImageBody
  written   : Nat
  accessDue : Nat
deriving DecidableEq, Repr

/-! ## The part -/

/-- STARTING and RUNNING (R187). -/
inductive Phase where
  | starting | running
deriving DecidableEq, Repr

/-- The state of the part. `pending` is the queue of commands, first in, first out; it is the model's, as are `clock`,
`secondDue` and `sampleDue`, which hold the part's own clock (log entry 2). -/
structure State where
  pending     : List Instr
  phase       : Phase
  clock       : Nat
  secondDue   : Nat
  sampleDue   : Nat
  config      : Configuration
  channels    : Vector ChannelRecord 32
  slots       : Vector SlotRecord 8
  pools       : Vector Pool 32
  openBank    : Bank
  closingBank : Bank
  furnaces    : Vector FurnaceRecord 4
  lines       : Vector LineRecord 12
  interval    : IntervalRecord
  ring        : List IntervalResult
  cursors     : Vector Cursor 4
  totals      : Totals
  prover      : Prover
  locks       : Vector LockRecord 53
  portLocks   : Vector PortLock 4
  ports       : Vector PortRecord 4
  alerts      : Vector AlertRecord 4
  loadFailed  : Bool
  save        : Option Save
  image       : Image
deriving DecidableEq, Repr

/-- Why the part stops. No command stops it: the handbook gives every one of them an effect in every state, so this
type has no constructor. -/
inductive Fault where
deriving DecidableEq, Repr

/-- Why a command has no meaning. -/
inductive Refusal where
  /-- Raised by `exec` for a command whose meaning is not written yet; no arm raises it (safe: nothing is claimed). -/
  | notModelled (mnemonic : String)
deriving DecidableEq, Repr

/-! ## Reset values -/

/-- R2: the channel record at hardware reset. Deviation, sums and end time of the prove record are zero, for which the
handbook gives no value: DESIGN CHOICE, log entry 4. -/
def ChannelRecord.reset : ChannelRecord :=
  { state := .inactive, base := none, lastReading := 0, carry := 0, underProve := false,
    prove := { outcome := .none, deviation := 0, channelUnits := 0, referenceUnits := 0, endTime := 0 } }

/-- R25: a slot at hardware reset is SENSING with both timers started; its sense levels are the lines' as they stand. -/
def SlotRecord.reset (sense : Sense) : SlotRecord :=
  { state := .sensing, sense := sense, settleDue := some 500, partialDue := some 2000, poll := none, polls := 0,
    positions := Vector.replicate 4 { counter := 0, nextDue := none, failed := 0 } }

/-- R63 with the blank configuration: no furnace is enabled. -/
def FurnaceRecord.reset : FurnaceRecord :=
  { state := none, lastSerial := 0, lastCullet := 0, queue := [], inventoryMass := 0, inventoryCullet := 0 }

/-- R88 with the blank configuration: no line is enabled. -/
def LineRecord.reset : LineRecord :=
  { state := none, current := none, previous := none, latched := none, resume := .producing, holdDue := none }

/-- R110 with the blank configuration: length 60, so the first boundary after 0 is 3600. -/
def IntervalRecord.reset : IntervalRecord :=
  { plantTime := 0, timeSet := false, length := 60, pendingLength := none, number := 1, startTime := 0,
    endTime := some 3600, cleared := false, first := true, closing := none, waiting := .none }

/-- R170: a port at hardware reset. -/
def PortRecord.reset : PortRecord :=
  { receive := .hunting, service := none, held := none, attention := false, atSpace := false }

/-- R182: nothing pending and no level masked. -/
def AlertRecord.reset : AlertRecord := { pending := Vector.replicate 19 none, mask := 0 }

/-- The serial memory before any save: no good image (format number 0). DESIGN CHOICE, log entry 4. -/
def Image.blank : Image :=
  { format := 0, body := { config := blankConfiguration, inventories := Vector.replicate 4 (0, 0) }, crc := 0 }

/-- The part right after hardware reset: every block at its reset values, the blank configuration in the store, and the
part in STARTING (R187). The slots' lines are taken to stand with no module seated, and the serial memory to hold no
good image (log entry 4). -/
def State.reset : State :=
  { pending := [], phase := .starting, clock := 0, secondDue := 1000, sampleDue := 1000,
    config := blankConfiguration,
    channels := Vector.replicate 32 ChannelRecord.reset,
    slots := Vector.replicate 8 (SlotRecord.reset { a := false, b := false, k1 := false, k2 := false }),
    pools := Vector.replicate 32 { opened := 0, closing := 0 },
    openBank := .zero, closingBank := .zero,
    furnaces := Vector.replicate 4 FurnaceRecord.reset,
    lines := Vector.replicate 12 LineRecord.reset,
    interval := IntervalRecord.reset, ring := [],
    cursors := Vector.replicate 4 { number := 1, gap := false },
    totals := Totals.zeroed 1 0,
    prover := { state := .idle, channelUnits := 0, referenceUnits := 0 },
    locks := Vector.replicate 53 { hold := none, waitList := [] },
    portLocks := Vector.replicate 4 { held := none, waited := none },
    ports := Vector.replicate 4 PortRecord.reset,
    alerts := Vector.replicate 4 AlertRecord.reset,
    loadFailed := false, save := none, image := Image.blank }

end Sys2Proof.Machine
end

