-- ==== Sys2Proof/Machine/Ops.lean ====
section
/-! DEFINITION. The named operations over the part's state: its limits, the numbering of channels, slots, consumers and
regions, one setter per record, access to accumulators by name, and the part's own clock. -/

namespace Sys2Proof.Machine

/-! ## Limits -/

/-- An accumulator of a bank and a pool hold 0 to 2^48 - 1 (R41, R51). -/
def bankLimit : Nat := 2 ^ 48 - 1
/-- An accumulator of the campaign totals holds 0 to 2^56 - 1 (R141). -/
def totalsLimit : Nat := 2 ^ 56 - 1
/-- A proving sum holds 0 to 2^64 - 1 (R147). -/
def proverLimit : Nat := 2 ^ 64 - 1
/-- Plant time, serials, job ids and counts hold 0 to 2^32 - 1. -/
def wordLimit : Nat := 2 ^ 32 - 1
/-- A melt inventory queue holds at most 64 records (R75). -/
def queueLimit : Nat := 64
/-- The results ring holds at most 48 records (R134). -/
def ringLimit : Nat := 48
/-- A furnace's inventory mass is at most 10^12 g (R72). -/
def inventoryLimit : Nat := 10 ^ 12

/-- An addition that is held at a limit: the value it leaves (R41, R141, R147). -/
def satAdd (limit a x : Nat) : Nat := min (a + x) limit
/-- Whether an addition passed its limit. -/
def satOver (limit a x : Nat) : Bool := decide (limit < a + x)

/-! ## Numbering (00_scope) -/

/-- Channel n sits in slot n div 4. -/
def slotOf (c : Chan) : Slot := ⟨c.val / 4, by omega⟩
/-- Channel n sits at position n mod 4. -/
def positionOf (c : Chan) : Position := ⟨c.val % 4, by omega⟩
/-- The channel of a slot's position. -/
def chanAt (sl : Slot) (pos : Position) : Chan := ⟨4 * sl.val + pos.val, by omega⟩

/-- Consumer indices: furnaces 0 to 3, lines 4 to 15, COMMON 16. -/
def Consumer.index : Consumer → Nat
  | .furnace f => f.val
  | .line l => l.val + 4
  | .common => 16

/-- The consumer of an index 0 to 16. -/
def consumerOf (n : Nat) : Option Consumer :=
  if h : n < 4 then some (.furnace ⟨n, h⟩)
  else if h' : n - 4 < 12 then some (.line ⟨n - 4, h'⟩)
  else if n = 16 then some .common
  else none

/-- Carriers are numbered GAS, ELEC, OXY, AIR. -/
def Carrier.index : Carrier → Fin 4
  | .gas => 0
  | .elec => 1
  | .oxy => 2
  | .air => 3

/-- The carrier of a number 0 to 3. -/
def carrierOf : Nat → Option Carrier
  | 0 => some .gas
  | 1 => some .elec
  | 2 => some .oxy
  | 3 => some .air
  | _ => none

/-- What a region is of (R156). -/
inductive Region where
  | channel (c : Chan)
  | carrier (k : Fin 4)
  | furnace (f : Furnace)
  | line (l : Line)
  | plant
deriving DecidableEq, Repr

/-- The region of a region number: CHANNEL n is n, CARRIER k is 32 + k, CONSUMER c is 36 + c, PLANT is 52 (R156). -/
def regionOf (r : RegionNo) : Region :=
  if h : r.val < 32 then .channel ⟨r.val, h⟩
  else if h' : r.val - 32 < 4 then .carrier ⟨r.val - 32, h'⟩
  else if h' : r.val - 36 < 4 then .furnace ⟨r.val - 36, h'⟩
  else if h' : r.val - 40 < 12 then .line ⟨r.val - 40, h'⟩
  else .plant

/-- The number of a CHANNEL region is its channel's number (R156). -/
def channelRegion (c : Chan) : RegionNo := ⟨c.val, by omega⟩

/-- The fields of a region (R156). -/
def Configuration.get (g : Configuration) : Region → RegionValue
  | .channel c => .channel g.channels[c]
  | .carrier k => .carrier g.carriers[k]
  | .furnace f => .furnace g.furnaces[f]
  | .line l => .line g.lines[l]
  | .plant => .plant g.plant

/-- The configuration with one region replaced, field for field (R166). A value of another kind of region changes
nothing. -/
def Configuration.put (g : Configuration) : Region → RegionValue → Configuration
  | .channel c, .channel v => { g with channels := g.channels.set c v }
  | .carrier k, .carrier v => { g with carriers := g.carriers.set k v }
  | .furnace f, .furnace v => { g with furnaces := g.furnaces.set f v }
  | .line l, .line v => { g with lines := g.lines.set l v }
  | .plant, .plant v => { g with plant := v }
  | _, _ => g

/-! ## Setters, one per record -/

def State.setChannel (s : State) (c : Chan) (r : ChannelRecord) : State := { s with channels := s.channels.set c r }
def State.setSlot (s : State) (sl : Slot) (r : SlotRecord) : State := { s with slots := s.slots.set sl r }
def State.setPool (s : State) (c : Chan) (r : Pool) : State := { s with pools := s.pools.set c r }
def State.setFurnace (s : State) (f : Furnace) (r : FurnaceRecord) : State :=
  { s with furnaces := s.furnaces.set f r }
def State.setLine (s : State) (l : Line) (r : LineRecord) : State := { s with lines := s.lines.set l r }
def State.setCursor (s : State) (p : Port) (r : Cursor) : State := { s with cursors := s.cursors.set p r }
def State.setLock (s : State) (n : RegionNo) (r : LockRecord) : State := { s with locks := s.locks.set n r }
def State.setPortLock (s : State) (p : Port) (r : PortLock) : State := { s with portLocks := s.portLocks.set p r }
def State.setPort (s : State) (p : Port) (r : PortRecord) : State := { s with ports := s.ports.set p r }
def State.setOpenBank (s : State) (b : Bank) : State := { s with openBank := b }
def State.setClosingBank (s : State) (b : Bank) : State := { s with closingBank := b }
def State.setInterval (s : State) (r : IntervalRecord) : State := { s with interval := r }
def State.setProver (s : State) (r : Prover) : State := { s with prover := r }
def State.setConfig (s : State) (g : Configuration) : State := { s with config := g }
def State.setTotals (s : State) (r : Totals) : State := { s with totals := r }

/-- The position record of a channel's meter position. -/
def State.position (s : State) (c : Chan) : PositionRecord := s.slots[slotOf c].positions[positionOf c]

/-- Replaces the position record of a channel's meter position. -/
def State.setPosition (s : State) (c : Chan) (r : PositionRecord) : State :=
  let sr := s.slots[slotOf c]
  s.setSlot (slotOf c) { sr with positions := sr.positions.set (positionOf c) r }

/-- An event for each of a list of things, one after the other. -/
def forEach {α : Type} (xs : List α) (f : α → State → State) (s : State) : State := xs.foldl (fun t x => f x t) s

/-! ## Accumulators by name (R40) -/

/-- The accumulators of a furnace's account. -/
inductive FurnaceKey where
  | producing | standby | melted | pulled | cullet | unbacked | drained
deriving DecidableEq, Repr

/-- The accumulators of a line's account. -/
inductive LineKey where
  | producing | standby | pulled | packed | change
deriving DecidableEq, Repr

/-- The name of one accumulator of a bank. -/
inductive Account where
  | furnace (f : Furnace) (k : FurnaceKey)
  | line (l : Line) (k : LineKey)
  | common
  | metered
deriving DecidableEq, Repr

def FurnaceSums.get (a : FurnaceSums) : FurnaceKey → Nat
  | .producing => a.producing
  | .standby => a.standby
  | .melted => a.melted
  | .pulled => a.pulled
  | .cullet => a.cullet
  | .unbacked => a.unbacked
  | .drained => a.drained

def FurnaceSums.put (a : FurnaceSums) (k : FurnaceKey) (x : Nat) : FurnaceSums :=
  match k with
  | .producing => { a with producing := x }
  | .standby => { a with standby := x }
  | .melted => { a with melted := x }
  | .pulled => { a with pulled := x }
  | .cullet => { a with cullet := x }
  | .unbacked => { a with unbacked := x }
  | .drained => { a with drained := x }

def LineSums.get (a : LineSums) : LineKey → Nat
  | .producing => a.producing
  | .standby => a.standby
  | .pulled => a.pulled
  | .packed => a.packed
  | .change => a.change

def LineSums.put (a : LineSums) (k : LineKey) (x : Nat) : LineSums :=
  match k with
  | .producing => { a with producing := x }
  | .standby => { a with standby := x }
  | .pulled => { a with pulled := x }
  | .packed => { a with packed := x }
  | .change => { a with change := x }

/-- The value of an accumulator. -/
def Bank.get (b : Bank) : Account → Nat
  | .furnace f k => b.furnaces[f].get k
  | .line l k => b.lines[l].get k
  | .common => b.common
  | .metered => b.metered

/-- A bank with one accumulator replaced. -/
def Bank.put (b : Bank) (a : Account) (x : Nat) : Bank :=
  match a with
  | .furnace f k => { b with furnaces := b.furnaces.set f (b.furnaces[f].put k x) }
  | .line l k => { b with lines := b.lines.set l (b.lines[l].put k x) }
  | .common => { b with common := x }
  | .metered => { b with metered := x }

/-- A booking of `x` to an accumulator: held at 2^48 - 1, and then the bank's saturated mark is set (R41). -/
def Bank.add (b : Bank) (a : Account) (x : Nat) : Bank :=
  let b' := b.put a (satAdd bankLimit (b.get a) x)
  { b' with saturated := b.saturated || satOver bankLimit (b.get a) x }

/-- A booking into the open bank. -/
def State.book (s : State) (a : Account) (x : Nat) : State := s.setOpenBank (s.openBank.add a x)

/-! ## The part's own clock -/

/-- The part's own clock has come at least to `t`: a tick of plant time and a pulse sample are the next second, and carry
the clock to it. DESIGN CHOICE, log entry 2. -/
def State.reach (s : State) (t : Nat) : State := { s with clock := max s.clock t }

/-- Whether a time limit that may be absent has been reached. A row that says that a limit has been reached has its effect
then, and changes nothing before (log entry 13). -/
def reached (s : State) (due : Option Nat) : Bool := due.any (· ≤ s.clock)

/-- Milliseconds of a time given in seconds. -/
def seconds (n : Nat) : Nat := 1000 * n

/-- A time left, in seconds rounded up (R108, R149, R181). -/
def secondsLeft (now due : Nat) : Nat := (due - now + 999) / 1000

end Sys2Proof.Machine
end

