-- ==== Sys2Proof/Machine/Operands.lean ====
section
/-! DEFINITION. How arguments, reply fields, region fields and record fields are coded in octets (R156, R173, R178), and
the forms and ranges of the region fields. -/

namespace Sys2Proof.Machine

/-! ## Numbers (R173, R178) -/

/-- A number in `k` octets, most significant octet first (R173). -/
def octets : Nat → Nat → List Octet
  | 0, _ => []
  | k + 1, n => BitVec.ofNat 8 (n / 256 ^ k) :: octets k n

/-- The number that octets spell, most significant octet first (R173). -/
def number (os : List Octet) : Nat := os.foldl (fun n o => 256 * n + o.toNat) 0

/-- A number with a sign in `k` octets, in two's complement (R178). -/
def signedOctets (k : Nat) (i : Int) : List Octet := octets k (i % (256 ^ k : Nat)).toNat

/-- The number with a sign that octets spell in two's complement (R178). -/
def signedNumber (os : List Octet) : Int :=
  let n := number os
  if 2 * n < 256 ^ os.length then n else (n : Int) - (256 ^ os.length : Nat)

/-- A field that may be absent: a presence octet, then the value if there is one (R178). -/
def optional {α : Type} (code : α → List Octet) : Option α → List Octet
  | none => octets 1 0
  | some a => octets 1 1 ++ code a

/-- A list: one octet giving its number of items, then the items (R178). -/
def listOf {α : Type} (code : α → List Octet) (l : List α) : List Octet := octets 1 l.length ++ l.flatMap code

/-- Yes or no, an enumerated value that the rules list in this order (R178): yes is 0, no is 1. DEDUCED, log entry 5. -/
def yesNo (b : Bool) : List Octet := octets 1 (if b then 0 else 1)

/-- A mark that a reply carries when it is set: 1 set, 0 clear, as R140 codes GAP. DESIGN CHOICE, log entry 5. -/
def flagSet (b : Bool) : List Octet := octets 1 (if b then 1 else 0)

/-! ## Enumerated values, numbered from 0 in the order their rule lists them (R178) -/

def Carrier.code (k : Carrier) : Nat := k.index.val
def Source.code : Source → Nat | .slot => 0 | .port => 1
def Expected.code : Expected → Nat | .pulse => 0 | .serial => 1
def ReadingKind.code : ReadingKind → Nat | .total => 0 | .delta => 1
def SetName.code : SetName → Nat | .a => 0 | .b => 1
/-- The attribution modes in the order of R1's table: FIXED 0, DRIVER 1, STATE 2, TAGGED 3. R1 leaves the modes to chapter
3, whose R45 and R47 list them in other orders. DESIGN CHOICE, log entry 5. -/
def Mode.code : Mode → Nat | .fixed => 0 | .driver => 1 | .state => 2 | .tagged => 3
def ChannelState.code : ChannelState → Nat | .inactive => 0 | .offline _ => 1 | .basing => 2 | .live => 3 | .stale => 4
def OfflineCause.code : OfflineCause → Nat | .slotNotReady => 0 | .mismatch => 1
def ProveOutcome.code : ProveOutcome → Nat | .none => 0 | .passed => 1 | .aborted => 2 | .noReference => 3
def SlotState.code : SlotState → Nat | .empty => 0 | .sensing => 1 | .ready _ => 2 | .rejected _ => 3
def ModuleType.code : ModuleType → Nat | .pulse4 => 0 | .pulse4f => 1 | .serial4 => 2
def RejectReason.code : RejectReason → Nat | .unrecognised => 0 | .partly => 1
def FurnaceState.code : FurnaceState → Nat | .melting => 0 | .hold => 1 | .cold => 2
def LineState.code : LineState → Nat | .producing => 0 | .jobChange => 1 | .holdPending => 2 | .hold => 3 | .cold => 4
def ResumeState.code : ResumeState → Nat | .producing => 0 | .jobChange => 1
def Quality.code : Quality → Nat | .formed => 0 | .notFormed => 1 | .saturated => 2
def Phase.code : Phase → Nat | .starting => 0 | .running => 1

/-- The status codes of R179. -/
def Status.code : Status → Nat
  | .ok => 0 | .pending => 1 | .queued => 2 | .replaced => 3
  | .badCommand => 16 | .badLength => 17 | .starting => 18 | .busy => 19 | .range => 20 | .notConfigured => 21
  | .wrongSource => 22 | .tagRequired => 23 | .duplicate => 24 | .furnaceCold => 25 | .furnaceNotMelting => 26
  | .linesActive => 27 | .lineCold => 28 | .wrongState => 29 | .jobUnknown => 30 | .noJob => 31 | .locked => 32
  | .notHolder => 33 | .holding => 34 | .waiting => 35 | .rejected => 36 | .noRecord => 37 | .notHeld => 38
  | .proverBusy => 39 | .proverIdle => 40

/-- The offline cause of a channel state, present in OFFLINE alone (R2). -/
def ChannelState.cause : ChannelState → Option OfflineCause
  | .offline k => some k
  | _ => none

/-- The module type of a slot state, present in READY alone (R25). -/
def SlotState.module : SlotState → Option ModuleType
  | .ready m => some m
  | _ => none

/-- The reject reason of a slot state, present in REJECTED alone (R25). -/
def SlotState.reason : SlotState → Option RejectReason
  | .rejected r => some r
  | _ => none

def setNameOf : Nat → SetName | 0 => .a | _ => .b

/-! ## Region fields (R156) -/

/-- The kinds of region, each with its own table of fields. -/
inductive RegionKind where
  | channel | carrier | furnace | line | plant
deriving DecidableEq, Repr

def Region.kind : Region → RegionKind
  | .channel _ => .channel
  | .carrier _ => .carrier
  | .furnace _ => .furnace
  | .line _ => .line
  | .plant => .plant

def RegionValue.kind : RegionValue → RegionKind
  | .channel _ => .channel
  | .carrier _ => .carrier
  | .furnace _ => .furnace
  | .line _ => .line
  | .plant _ => .plant

/-- The form of a region field: how it is coded and what it admits. A number has its octets, least and greatest value;
an enumerated value is a number in one octet. -/
inductive FieldForm where
  | flag
  | number (width low high : Nat)
  | trim
  | entries
  | ranks
  | text
deriving DecidableEq, Repr

/-- The fields of each kind of region by field number, with the ranges their chapters give (R1, R18, R61, R86, R100,
R147, R156, R167). A mass takes 6 octets (R178; log entry 9). -/
def fieldForms : RegionKind → List FieldForm
  | .channel =>
    [.flag, .number 1 0 3, .number 1 0 1, .number 1 0 1, .number 1 0 1, .number 6 1000 (10 ^ 12), .number 2 1 10000,
     .number 1 1 247, .number 1 5 60, .number 2 10 3600, .number 4 1 (10 ^ 9), .number 1 0 1, .trim, .number 1 0 3,
     .entries]
  | .carrier => [.number 3 0 1000000, .trim, .number 3 0 1000000, .trim]
  | .furnace =>
    [.flag, .number 2 0 400, .number 2 0 1000, .number 1 0 100, .number 6 1 (10 ^ 9), .number 3 0 999999,
     .number 3 0 999999, .number 6 0 (10 ^ 12), .number 2 0 1000]
  | .line => [.flag, .number 1 0 3, .number 6 1 (10 ^ 9), .number 3 0 999999, .number 3 0 999999]
  | .plant => [.number 2 1 1440, .ranks, .number 2 10 600, .number 2 5 300, .number 3 1 1000000, .text, .text]

/-- The form of a field of a kind of region, if the field number is in its table. -/
def fieldForm (k : RegionKind) (field : Nat) : Option FieldForm := (fieldForms k)[field]?

/-- Whether a value is in its field's range and in the form R156 gives (the last check of R162). -/
def inForm : FieldForm → StageValue → Bool
  | .flag, .flag _ => true
  | .number _ low high, .num n => decide (low ≤ n ∧ n ≤ high)
  | .trim, .trim t => decide (-500 ≤ t ∧ t ≤ 500)
  | .entries, .entries l => decide (l.length ≤ 6) && l.all fun e => decide (e.1 ≤ 16 ∧ 1 ≤ e.2 ∧ e.2 ≤ 1000)
  | .ranks, .ranks l => decide (l.length = 4) && l.all fun p => decide (p < 4)
  | .text, .text cs => decide (cs.length ≤ 16) && cs.all fun c => decide (32 ≤ c.toNat ∧ c.toNat ≤ 126)
  | _, _ => false

/-- Whether a value's count octet lies outside its range, which R176 checks before everything else of the command. -/
def countOver : StageValue → Bool
  | .entries l => decide (6 < l.length)
  | .text cs => decide (16 < cs.length)
  | _ => false

/-- The octets of a field's value, coded as the field (R178). -/
def valueOctets : FieldForm → StageValue → List Octet
  | .flag, .flag b => yesNo b
  | .number w _ _, .num n => octets w n
  | .trim, .trim t => signedOctets 2 t
  | .entries, .entries l => listOf (fun e => octets 1 e.1 ++ octets 2 e.2) l
  | .ranks, .ranks l => l.flatMap (octets 1)
  | .text, .text cs => octets 1 cs.length ++ cs
  | _, _ => []

def Entry.pair (e : Entry) : Nat × Nat := (e.consumer.index, e.weight)
def entryOf (e : Nat × Nat) : Option Entry := (consumerOf e.1).map fun c => ⟨c, e.2⟩

/-- One field of a region, by field number (R156). -/
def RegionValue.field : RegionValue → Nat → StageValue
  | .channel v, 0 => .flag v.active
  | .channel v, 1 => .num v.carrier.code
  | .channel v, 2 => .num v.source.code
  | .channel v, 3 => .num v.expected.code
  | .channel v, 4 => .num v.kind.code
  | .channel v, 5 => .num v.modulus
  | .channel v, 6 => .num v.pulseWeight
  | .channel v, 7 => .num v.address
  | .channel v, 8 => .num v.pollPeriod
  | .channel v, 9 => .num v.staleTime
  | .channel v, 10 => .num v.rateCeiling
  | .channel v, 11 => .num v.set.code
  | .channel v, 12 => .trim v.trim
  | .channel v, 13 => .num v.mode.code
  | .channel v, _ => .entries (v.entries.map Entry.pair)
  | .carrier v, 0 => .num v.factorA
  | .carrier v, 1 => .trim v.trimA
  | .carrier v, 2 => .num v.factorB
  | .carrier v, _ => .trim v.trimB
  | .furnace v, 0 => .flag v.enabled
  | .furnace v, 1 => .num v.loi
  | .furnace v, 2 => .num v.referenceCullet
  | .furnace v, 3 => .num v.sensitivity
  | .furnace v, 4 => .num v.minimumMass
  | .furnace v, 5 => .num v.bandLow
  | .furnace v, 6 => .num v.bandHigh
  | .furnace v, 7 => .num v.openingMass
  | .furnace v, _ => .num v.openingCullet
  | .line v, 0 => .flag v.enabled
  | .line v, 1 => .num v.feeding.val
  | .line v, 2 => .num v.minimumMass
  | .line v, 3 => .num v.bandLow
  | .line v, _ => .num v.bandHigh
  | .plant v, 0 => .num v.intervalLength
  | .plant v, 1 => .ranks (v.rank.map Fin.val)
  | .plant v, 2 => .num v.lockTimeout
  | .plant v, 3 => .num v.tallyTimeout
  | .plant v, 4 => .num v.proverWeight
  | .plant v, 5 => .text v.plantIdentity
  | .plant v, _ => .text v.unitIdentity

/-- A region with one field replaced by a value in its form; a value of another form changes nothing (R162). -/
def RegionValue.withField : RegionValue → Nat → StageValue → RegionValue
  | .channel v, 0, .flag b => .channel { v with active := b }
  | .channel v, 1, .num n => .channel { v with carrier := (carrierOf n).getD v.carrier }
  | .channel v, 2, .num n => .channel { v with source := if n = 0 then .slot else .port }
  | .channel v, 3, .num n => .channel { v with expected := if n = 0 then .pulse else .serial }
  | .channel v, 4, .num n => .channel { v with kind := if n = 0 then .total else .delta }
  | .channel v, 5, .num n => .channel { v with modulus := n }
  | .channel v, 6, .num n => .channel { v with pulseWeight := n }
  | .channel v, 7, .num n => .channel { v with address := n }
  | .channel v, 8, .num n => .channel { v with pollPeriod := n }
  | .channel v, 9, .num n => .channel { v with staleTime := n }
  | .channel v, 10, .num n => .channel { v with rateCeiling := n }
  | .channel v, 11, .num n => .channel { v with set := setNameOf n }
  | .channel v, 12, .trim t => .channel { v with trim := t }
  | .channel v, 13, .num n =>
    .channel { v with mode := if n = 0 then .fixed else if n = 1 then .driver else if n = 2 then .state else .tagged }
  | .channel v, 14, .entries l => .channel { v with entries := l.filterMap entryOf }
  | .carrier v, 0, .num n => .carrier { v with factorA := n }
  | .carrier v, 1, .trim t => .carrier { v with trimA := t }
  | .carrier v, 2, .num n => .carrier { v with factorB := n }
  | .carrier v, 3, .trim t => .carrier { v with trimB := t }
  | .furnace v, 0, .flag b => .furnace { v with enabled := b }
  | .furnace v, 1, .num n => .furnace { v with loi := n }
  | .furnace v, 2, .num n => .furnace { v with referenceCullet := n }
  | .furnace v, 3, .num n => .furnace { v with sensitivity := n }
  | .furnace v, 4, .num n => .furnace { v with minimumMass := n }
  | .furnace v, 5, .num n => .furnace { v with bandLow := n }
  | .furnace v, 6, .num n => .furnace { v with bandHigh := n }
  | .furnace v, 7, .num n => .furnace { v with openingMass := n }
  | .furnace v, 8, .num n => .furnace { v with openingCullet := n }
  | .line v, 0, .flag b => .line { v with enabled := b }
  | .line v, 1, .num n => .line { v with feeding := if h : n < 4 then ⟨n, h⟩ else v.feeding }
  | .line v, 2, .num n => .line { v with minimumMass := n }
  | .line v, 3, .num n => .line { v with bandLow := n }
  | .line v, 4, .num n => .line { v with bandHigh := n }
  | .plant v, 0, .num n => .plant { v with intervalLength := n }
  | .plant v, 1, .ranks l => .plant { v with rank := l.filterMap fun p => if h : p < 4 then some ⟨p, h⟩ else none }
  | .plant v, 2, .num n => .plant { v with lockTimeout := n }
  | .plant v, 3, .num n => .plant { v with tallyTimeout := n }
  | .plant v, 4, .num n => .plant { v with proverWeight := n }
  | .plant v, 5, .text cs => .plant { v with plantIdentity := cs }
  | .plant v, 6, .text cs => .plant { v with unitIdentity := cs }
  | v, _, _ => v

/-- A region's fields in field order, each coded as the field (R163, R178). -/
def RegionValue.code (v : RegionValue) : List Octet :=
  (fieldForms v.kind).zipIdx.flatMap fun fi => valueOctets fi.1 (v.field fi.2)

end Sys2Proof.Machine
end

