-- ==== Sys2Proof/Machine/Flags.lean ====
section
/-! DEFINITION. The alert unit: sources, pending sets, latching and the attention outputs (chapter 11, R180). -/

namespace Sys2Proof.Machine

/-- The nineteen alert sources, in code order (R182). -/
inductive AlertSource where
  | configLoadFail | saveFail | moduleRejected | moduleMismatch | channelStale | channelOffline | readingClamped
  | readingBackstep | tagUnlisted | inventoryShort | queueMerged | holdForced | holdCuts | seBand | intervalClosed
  | proveDone | lineHeld | lockGranted | lockExpired
deriving DecidableEq, Repr

/-- The code of a source (R182). -/
def AlertSource.code : AlertSource → Fin 19
  | .configLoadFail => 0 | .saveFail => 1 | .moduleRejected => 2 | .moduleMismatch => 3 | .channelStale => 4
  | .channelOffline => 5 | .readingClamped => 6 | .readingBackstep => 7 | .tagUnlisted => 8 | .inventoryShort => 9
  | .queueMerged => 10 | .holdForced => 11 | .holdCuts => 12 | .seBand => 13 | .intervalClosed => 14
  | .proveDone => 15 | .lineHeld => 16 | .lockGranted => 17 | .lockExpired => 18

/-- The level of the source of a code, 0 most urgent (R182). -/
def levelOf (k : Fin 19) : Nat :=
  if k.val ≤ 3 then 0 else if k.val ≤ 8 then 1 else if k.val ≤ 13 then 2 else 3

/-- Whether the source of a code is of the condition kind (R182). -/
def isCondition (k : Fin 19) : Bool := k.val = 0 || (2 ≤ k.val && k.val ≤ 5)

/-- An object joins an object set; it is not added twice (R182). A strictly rising list stands for the set (log entry 26). -/
def joinObject (n : Nat) : List Nat → List Nat
  | [] => [n]
  | m :: ms => if n < m then n :: m :: ms else if n = m then m :: ms else m :: joinObject n ms

/-- A source latched in a pending set with its object, or with none for a source without object type (R182). -/
def AlertRecord.latch (a : AlertRecord) (k : Fin 19) (obj : Option Nat) : AlertRecord :=
  let set := (a.pending[k]).getD []
  { a with pending := a.pending.set k (some (match obj with | none => set | some n => joinObject n set)) }

/-- Whether a port's attention output is to be asserted: a source is pending whose level is not masked (R180). -/
def AlertRecord.wantsAttention (a : AlertRecord) : Bool :=
  (List.finRange 19).any fun k => (a.pending[k]).isSome && !(a.mask.getLsbD (levelOf k))

/-- A port's alert record replaced; its attention output follows in the same step (R180). -/
def State.setAlerts (s : State) (p : Port) (a : AlertRecord) : State :=
  { s with alerts := s.alerts.set p a,
           ports := s.ports.set p { s.ports[p] with attention := a.wantsAttention } }

/-- A port-directed source raised for one port (R182). -/
def raiseTo (p : Port) (src : AlertSource) (obj : Option Nat) (s : State) : State :=
  s.setAlerts p (s.alerts[p].latch src.code obj)

/-- A source raised for an object, latched into the pending set of every port (R182). -/
def raise (src : AlertSource) (obj : Option Nat) (s : State) : State :=
  forEach (List.finRange 4) (fun p => raiseTo p src obj) s

/-- Whether an object is in the condition of a condition-kind source (R24, R31, R188). -/
def inCondition (s : State) (k : Fin 19) (n : Nat) : Bool :=
  let channel (p : ChannelState → Bool) : Bool := if h : n < 32 then p s.channels[n].state else false
  match k.val with
  | 0 => s.loadFailed
  | 2 => if h : n < 8 then (match s.slots[n].state with | .rejected _ => true | _ => false) else false
  | 3 => channel (· == .offline .mismatch)
  | 4 => channel (· == .stale)
  | 5 => channel (· == .offline .slotNotReady)
  | _ => false

/-- The objects now in the condition of a condition-kind source, or none (R184). CONFIG_LOAD_FAIL has no object: its
object set is empty. The list rises: DESIGN CHOICE, log entry 26. -/
def conditionObjects (s : State) (k : Fin 19) : Option (List Nat) :=
  if k.val = 0 then (if s.loadFailed then some [] else none)
  else
    let l := (List.range 32).filter (inCondition s k)
    if l.isEmpty then none else some l

/-- The highest pending source: the lowest level, and within a level the lowest code (R183). -/
def AlertRecord.highest (a : AlertRecord) : Option (Fin 19) :=
  (List.range 4).findSome? fun lev => (List.finRange 19).find? fun k => levelOf k == lev && (a.pending[k]).isSome

/-- The number of sources pending. -/
def AlertRecord.count (a : AlertRecord) : Nat := (List.finRange 19).countP fun k => (a.pending[k]).isSome

end Sys2Proof.Machine
end

