-- ==== Sys2Proof/Machine/Frames.lean ====
section
/-! DEFINITION. Frames, their check, the coding of requests, and the step in which a port's request is taken and its reply
formed (R173 to R178). -/

namespace Sys2Proof.Machine

/-! ## The CRC-16 (R173) -/

/-- One bit shifted into the check register: division by x^16 + x^12 + x^5 + 1. -/
def crc16Bit (r : BitVec 16) (b : Bool) : BitVec 16 :=
  if r.getLsbD 15 != b then (r <<< 1) ^^^ 0x1021#16 else r <<< 1

/-- One octet shifted in, most significant bit first. -/
def crc16Octet (r : BitVec 16) (o : Octet) : BitVec 16 :=
  [7, 6, 5, 4, 3, 2, 1, 0].foldl (fun r i => crc16Bit r (o.getLsbD i)) r

/-- The check of a frame's octets from the tag to the last payload octet; the register starts at all ones. -/
def crc16 (os : List Octet) : BitVec 16 := os.foldl crc16Octet 0xFFFF#16

/-- The two octets of a check, most significant first. -/
def crcOctets (r : BitVec 16) : List Octet := octets 2 r.toNat

/-- The octets of a frame from its tag to its last payload octet (R173). -/
def frameBody (tag code : Octet) (payload : List Octet) : List Octet :=
  [tag, code] ++ octets 2 payload.length ++ payload

/-- The octets of a frame on the line, with its start octet and its check (R173). -/
def frameOctets (start tag code : Octet) (payload : List Octet) : List Octet :=
  start :: frameBody tag code payload ++ crcOctets (crc16 (frameBody tag code payload))

/-- A request frame on the line: start octet 167. -/
def requestOctets (fr : Frame) : List Octet := frameOctets 167 fr.tag fr.code fr.payload

/-- A reply frame on the line: start octet 168, the request's tag and the status code (R173, R177). -/
def replyOctets (r : Reply) : List Octet := frameOctets 168 r.tag (BitVec.ofNat 8 r.status.code) r.payload

/-- The frame of a complete request's octets, if its check agrees (R174). -/
def checkedFrame (os : List Octet) : Option Frame :=
  let body := (os.drop 1).take (os.length - 3)
  let check := os.drop (os.length - 2)
  if crcOctets (crc16 body) = check then
    some { tag := body.getD 0 0, code := body.getD 1 0, payload := body.drop 4 }
  else none

/-! ## The coding of requests (R178) -/

/-- The command code of a request (the table of 10.4). -/
def requestCode : Request → Nat
  | .status => 1
  | .meterPost .. => 16
  | .channelRead .. => 17
  | .channelRebase .. => 18
  | .setSwitch .. => 19
  | .slotRead .. => 24
  | .liveRead .. => 28
  | .chargePost .. => 32
  | .furnaceHold .. => 33
  | .furnaceResume .. => 34
  | .furnaceShutdown .. => 35
  | .furnaceWarm .. => 36
  | .queueRead .. => 37
  | .jobStart .. => 48
  | .jobReady .. => 49
  | .tallyPost .. => 50
  | .lineHold .. => 51
  | .lineResume .. => 52
  | .lineShutdown .. => 53
  | .lineWarm .. => 54
  | .stateRead .. => 55
  | .timeSet .. => 64
  | .intervalRead => 72
  | .intervalReadAt .. => 73
  | .cursorSet .. => 74
  | .totalsRead .. => 75
  | .campaignReset .. => 76
  | .clearCounts => 77
  | .proveStart .. => 80
  | .proveStop => 81
  | .proveApply .. => 82
  | .lock .. => 96
  | .lockCancel => 97
  | .stageWrite .. => 98
  | .configRead .. => 99
  | .release .. => 100
  | .alertRead => 112
  | .alertClear .. => 113
  | .alertMask .. => 114
  | .save => 120

/-- The arguments of a request that are numbers in a fixed count of octets, each with its count (R178). METER_POST's
tag and STAGE_WRITE's value follow them. Counts follow the ranges of the defining rules (log entries 5 and 9). -/
def requestNumbers : Request → List (Nat × Nat)
  | .status | .intervalRead | .clearCounts | .proveStop | .lockCancel | .alertRead | .save => []
  | .meterPost c v _ => [(1, c), (6, v)]
  | .channelRead c | .channelRebase c | .proveApply c => [(1, c)]
  | .setSwitch k x => [(1, k), (1, x)]
  | .slotRead n | .liveRead n | .stateRead n | .totalsRead n | .campaignReset n | .cursorSet n => [(1, n)]
  | .chargePost f n b k => [(1, f), (4, n), (6, b), (6, k)]
  | .furnaceHold f | .furnaceResume f | .furnaceShutdown f | .furnaceWarm f => [(1, f)]
  | .queueRead f n => [(1, f), (1, n)]
  | .jobStart l j g n a => [(1, l), (4, j), (6, g), (1, n), (6, a)]
  | .jobReady l | .lineHold l | .lineResume l | .lineShutdown l | .lineWarm l => [(1, l)]
  | .tallyPost l j c k => [(1, l), (4, j), (4, c), (4, k)]
  | .timeSet t => [(4, t)]
  | .intervalReadAt n => [(4, n)]
  | .proveStart c d => [(1, c), (2, d)]
  | .lock r m => [(1, r), (1, m)]
  | .stageWrite r n _ => [(1, r), (1, n)]
  | .configRead r w => [(1, r), (1, w)]
  | .release a | .alertClear a | .alertMask a => [(1, a)]

/-- The form of the field a STAGE_WRITE names, where its region and field numbers are in their tables (R156). -/
def namedForm (region field : Nat) : Option FieldForm :=
  if h : region < 53 then fieldForm (regionOf ⟨region, h⟩).kind field else none

/-- The payload of a request's frame: its arguments in the order its rule names them (R178). -/
def requestPayload (r : Request) : List Octet :=
  (requestNumbers r).flatMap (fun wn => octets wn.1 wn.2) ++
    match r with
    | .meterPost _ _ tag => optional (octets 1) tag
    | .stageWrite region field v => ((namedForm region field).map fun f => valueOctets f v).getD []
    | _ => []

/-- The request frame of a request with a tag. -/
def requestFrame (tag : Octet) (r : Request) : Frame :=
  { tag := tag, code := BitVec.ofNat 8 (requestCode r), payload := requestPayload r }

/-! ## Taking a request (R175 to R177) -/

/-- What taking a request leaves: the state after it, and the status and payload of its reply, formed from that state
(R177). -/
structure Taken where
  after   : State
  status  : Status
  payload : List Octet

/-- A request refused with a status and the details its rule names: nothing changes (R176). -/
def refuse (s : State) (st : Status) (payload : List Octet := []) : Taken := ⟨s, st, payload⟩

/-- A request taken with status OK. -/
def accept (s : State) (payload : List Octet := []) : Taken := ⟨s, .ok, payload⟩

/-- The request of a port enters service and is taken in one step: the operation is carried out, and the reply stands
with the request until its last octet has been sent (R175). -/
def answer (p : Port) (fr : Frame) (t : Taken) : State :=
  t.after.setPort p
    { t.after.ports[p] with
      service := some { request := fr, reply := { tag := fr.tag, status := t.status, payload := t.payload } } }

/-- The STARTING check of R176: in STARTING every command but STATUS is refused with STARTING. -/
def gate (r : Request) (op : State → Taken) (s : State) : Taken :=
  if s.phase = .starting ∧ r ≠ .status then refuse s .starting else op s

/-- The step of a request row: the port's request is taken, with the checks of R176 before its own, and answered. The
row is taken even while an earlier reply of the port is going out: DESIGN CHOICE, log entry 10. -/
def serve (p : Port) (tag : Octet) (r : Request) (op : State → Taken) (s : State) : State :=
  answer p (requestFrame tag r) (gate r op s)

end Sys2Proof.Machine
end

