-- ==== Sys2Proof/Machine/Alerts.lean ====
section
/-! DEFINITION. The requests ALERT_READ, ALERT_CLEAR and ALERT_MASK (R183 to R185). -/

namespace Sys2Proof.Machine

/-- R183. A condition-kind source stays; an event-kind source leaves the port's pending set. -/
def reqAlertRead (p : Port) (s : State) : Taken :=
  let a := s.alerts[p]
  match a.highest with
  | none => accept s (octets 1 0 ++ octets 1 0 ++ octets 1 0)
  | some k =>
    let s' := if isCondition k then s else s.setAlerts p { a with pending := a.pending.set k none }
    accept s' (octets 1 1 ++ octets 1 k.val ++ listOf (octets 1) ((a.pending[k]).getD []) ++
      octets 1 s'.alerts[p].count)

/-- R184. A condition-kind source is latched again, in the same step, for every object still in its condition; a
source that is not pending stays so (DEDUCED, log entry 21). The reply lists the objects in ascending number, as R183 has
ALERT_READ do: R184 gives its list no order. DESIGN CHOICE, log entry 26. -/
def reqAlertClear (p : Port) (source : Nat) (s : State) : Taken :=
  if h : source < 19 then
    let k : Fin 19 := ⟨source, h⟩
    let a := s.alerts[p]
    let held := if (a.pending[k]).isSome && isCondition k then conditionObjects s k else none
    let s' := s.setAlerts p { a with pending := a.pending.set k held }
    accept s' (listOf (octets 1) (held.getD []))
  else refuse s .range

/-- R185. -/
def reqAlertMask (p : Port) (levels : Nat) (s : State) : Taken :=
  if levels ≤ 15 then
    let a := s.alerts[p]
    accept (s.setAlerts p { a with mask := BitVec.ofNat 4 levels }) (octets 1 a.mask.toNat)
  else refuse s .range

def execAlertRead (p : Port) (tag : Octet) (s : State) : Host.Outcome State Fault Refusal :=
  .next (serve p tag .alertRead (reqAlertRead p) s)

def execAlertClear (p : Port) (tag : Octet) (source : Nat) (s : State) : Host.Outcome State Fault Refusal :=
  .next (serve p tag (.alertClear source) (reqAlertClear p source) s)

def execAlertMask (p : Port) (tag : Octet) (levels : Nat) (s : State) : Host.Outcome State Fault Refusal :=
  .next (serve p tag (.alertMask levels) (reqAlertMask p levels) s)

end Sys2Proof.Machine
end

