-- ==== Sys2Proof/Machine/Proving.lean ====
section
/-! DEFINITION. The meter prover (chapter 8). PROVE_APPLY stands with the region locks, whose staging copy it writes. -/

namespace Sys2Proof.Machine

/-- The prover sums are held at 2^64 - 1 (R147). -/
def addChannelUnits (u : Nat) (s : State) : State :=
  s.setProver { s.prover with channelUnits := satAdd proverLimit s.prover.channelUnits u }

/-- The deviation of R153: N = (1000 C - R) 10^6 divided by R, rounded to the nearest whole number with an exact half
away from zero, and clamped to -999,999 to +999,999. -/
def deviation (units reference : Nat) : Int :=
  let n : Int := (1000 * (units : Int) - reference) * 10 ^ 6
  let magnitude : Nat := (2 * n.natAbs + reference) / (2 * reference)
  let d : Int := if n < 0 then -(magnitude : Int) else magnitude
  max (-999999) (min 999999 d)

/-- The outcome and deviation of a run that ends by expiry or PROVE_STOP (R153). -/
def proveResult (pr : Prover) : ProveOutcome × Int :=
  if pr.referenceUnits = 0 then (.noReference, 0) else (.passed, deviation pr.channelUnits pr.referenceUnits)

/-- The end of a run in one step (R154): the mark cleared, the prove record written, the prover IDLE with its sums kept,
and PROVE_DONE raised on every port. -/
def endRun (outcome : ProveOutcome) (dev : Int) (s : State) : State :=
  match s.prover.state with
  | .idle => s
  | .running c _ _ _ =>
    let r := s.channels[c]
    let s := s.setChannel c
      { r with underProve := false,
               prove := { outcome := outcome, deviation := dev, channelUnits := s.prover.channelUnits,
                          referenceUnits := s.prover.referenceUnits, endTime := s.interval.plantTime } }
    raise .proveDone (some c.val) (s.setProver { s.prover with state := .idle })

/-- A run is aborted when its channel leaves LIVE (R152). -/
def abortRun (c : Chan) (s : State) : State :=
  match s.prover.state with
  | .idle => s
  | .running c' _ _ _ => if c' = c then endRun .aborted 0 s else s

/-- R148: a reference pulse adds the weight in use in RUNNING, and is not counted in IDLE. -/
def execReferencePulse (s : State) : Host.Outcome State Fault Refusal :=
  .next (match s.prover.state with
    | .idle => s
    | .running _ _ _ w =>
      s.setProver { s.prover with referenceUnits := satAdd proverLimit s.prover.referenceUnits w })

/-- PROVE_EXPIRY (R151): the part's own clock has reached the end time. -/
def execProveExpiry (s : State) : Host.Outcome State Fault Refusal :=
  .next (match s.prover.state with
    | .idle => s
    | .running _ _ due _ =>
      let res := proveResult s.prover
      if due ≤ s.clock then endRun res.1 res.2 s else s)

/-- What a PROVER_BUSY reply names: the channel under prove, the claiming port and the time left (R149). -/
def proverBusy (s : State) (c : Chan) (port : Port) (due : Nat) : Taken :=
  refuse s .proverBusy (octets 1 c.val ++ octets 1 port.val ++ octets 2 (secondsLeft s.clock due))

/-- R149. -/
def reqProveStart (p : Port) (channel duration : Nat) (s : State) : Taken :=
  if h : channel < 32 then
    if 60 ≤ duration ∧ duration ≤ 7200 then
      match s.prover.state with
      | .running c port due _ => proverBusy s c port due
      | .idle =>
        let c : Chan := ⟨channel, h⟩
        let r := s.channels[c]
        if r.state = .live then
          let s' := s.setChannel c { r with underProve := true }
          accept (s'.setProver
              { state := .running c p (s.clock + seconds duration) s.config.plant.proverWeight,
                channelUnits := 0, referenceUnits := 0 })
            (octets 4 s.interval.plantTime ++ octets 2 duration)
        else refuse s .wrongState (octets 1 r.state.code)
    else refuse s .range
  else refuse s .range

/-- R151. -/
def reqProveStop (s : State) : Taken :=
  match s.prover.state with
  | .idle => refuse s .proverIdle
  | .running c _ _ _ =>
    let res := proveResult s.prover
    accept (endRun res.1 res.2 s)
      (octets 1 c.val ++ octets 1 res.1.code ++ signedOctets 3 res.2 ++ octets 8 s.prover.channelUnits ++
        octets 8 s.prover.referenceUnits)

def execProveStart (p : Port) (tag : Octet) (channel duration : Nat) (s : State) : Host.Outcome State Fault Refusal :=
  .next (serve p tag (.proveStart channel duration) (reqProveStart p channel duration) s)

def execProveStop (p : Port) (tag : Octet) (s : State) : Host.Outcome State Fault Refusal :=
  .next (serve p tag .proveStop reqProveStop s)

end Sys2Proof.Machine
end

