-- ==== Sys2Proof/Machine/Attribution.lean ====
section
/-! DEFINITION. The attribution unit: booking classes, the split rule, the four modes, pools and their settlement, and
the reading of the open bank (chapter 3). -/

namespace Sys2Proof.Machine

/-! ## Consumers and booking classes (R43) -/

inductive BookingClass where
  | producing | standby
deriving DecidableEq, Repr

/-- A furnace is in producing class while MELTING. -/
def FurnaceState.working : FurnaceState → Bool
  | .melting => true
  | _ => false

/-- A line is in producing class while PRODUCING, JOB_CHANGE or HOLD_PENDING. -/
def LineState.working : LineState → Bool
  | .producing | .jobChange | .holdPending => true
  | _ => false

/-- Whether a consumer is a furnace or a line in producing class at this moment; COMMON never is (R43, R49). -/
def working (s : State) : Consumer → Bool
  | .furnace f => (s.furnaces[f].state).any FurnaceState.working
  | .line l => (s.lines[l].state).any LineState.working
  | .common => false

/-- The booking class of a furnace or line at this moment (R43). -/
def classOf (s : State) (c : Consumer) : BookingClass := if working s c then .producing else .standby

/-- Whether a consumer is enabled in the committed configuration; COMMON counts as enabled (R45). -/
def enabled (g : Configuration) : Consumer → Bool
  | .furnace f => g.furnaces[f].enabled
  | .line l => g.lines[l].enabled
  | .common => true

/-- The accumulator that energy booked to a consumer in a class goes to; energy for COMMON is common energy whatever
the class (R43). -/
def energyAccount : Consumer → BookingClass → Account
  | .furnace f, .producing => .furnace f .producing
  | .furnace f, .standby => .furnace f .standby
  | .line l, .producing => .line l .producing
  | .line l, .standby => .line l .standby
  | .common, _ => .common

/-! ## The split rule (R46) -/

/-- The place of the earliest largest of a list of bases. -/
def largestAt (bases : List Nat) : Nat := bases.findIdx (· == bases.foldr max 0)

/-- The parts of a quantity split by bases: each the floor of its share, and the whole residue to the earliest of the
largest bases (R46). -/
def split (q : Nat) (bases : List Nat) : List Nat :=
  let parts := bases.map fun b => q * b / bases.sum
  parts.modify (largestAt bases) (· + (q - parts.sum))

/-- Parts of one booking, each to its consumer in the class given for it, in one step (R44). -/
def bookParts (cls : Consumer → BookingClass) (entries : List Entry) (parts : List Nat) (b : Bank) : Bank :=
  (entries.zip parts).foldl (fun b ep => b.add (energyAccount ep.1.consumer (cls ep.1.consumer)) ep.2) b

/-! ## The attribution modes (R47 to R51) -/

/-- R48: a FIXED channel splits over all its entries, each part in its consumer's class. -/
def placeFixed (entries : List Entry) (e : Nat) (s : State) : State :=
  s.setOpenBank (bookParts (classOf s) entries (split e (entries.map Entry.weight)) s.openBank)

/-- R49: a STATE channel splits over the entries whose consumer is working, producing; where none is, over all
entries, standby. -/
def placeState (entries : List Entry) (e : Nat) (s : State) : State :=
  let applicable := entries.filter fun n => working s n.consumer
  if applicable.isEmpty then
    s.setOpenBank (bookParts (fun _ => .standby) entries (split e (entries.map Entry.weight)) s.openBank)
  else
    s.setOpenBank (bookParts (fun _ => .producing) applicable (split e (applicable.map Entry.weight)) s.openBank)

/-- R50: a TAGGED channel books to the tagged consumer if its list names it, and otherwise to COMMON with TAG_UNLISTED.
A tag naming a disabled consumer goes to COMMON as well. -/
def placeTagged (c : Chan) (entries : List Entry) (e : Nat) (tag : Option Consumer) (s : State) : State :=
  match tag with
  | some n =>
    if (entries.any fun x => x.consumer == n) && enabled s.config n then s.book (energyAccount n (classOf s n)) e
    else raise .tagUnlisted (some c.val) (s.book .common e)
  | none => raise .tagUnlisted (some c.val) (s.book .common e)

/-- R51: a DRIVER channel's energy joins its open pool, held at 2^48 - 1 with the open bank's mark set. -/
def placePool (c : Chan) (e : Nat) (s : State) : State :=
  let q := s.pools[c]
  let s' := s.setPool c { q with opened := satAdd bankLimit q.opened e }
  s'.setOpenBank { s'.openBank with saturated := s'.openBank.saturated || satOver bankLimit q.opened e }

/-- R47: an increment handed on is added to the metered energy and placed by the committed mode and entry list, in one
step. -/
def placeIncrement (c : Chan) (e : Nat) (tag : Option Consumer) (s : State) : State :=
  let g := s.config.channels[c]
  let s := s.book .metered e
  match g.mode with
  | .fixed => placeFixed g.entries e s
  | .state => placeState g.entries e s
  | .tagged => placeTagged c g.entries e tag s
  | .driver => placePool c e s

/-! ## Pools and their settlement (R52 to R55) -/

/-- A consumer's driver: its pulled mass in the bank; COMMON's is 0 (R52). -/
def driverMass (b : Bank) : Consumer → Nat
  | .furnace f => b.get (.furnace f .pulled)
  | .line l => b.get (.line l .pulled)
  | .common => 0

/-- R52: a pool's energy split by weight times driver, all producing; where every base is 0, by weight, all standby. -/
def settle (entries : List Entry) (q : Nat) (b : Bank) : Bank :=
  let bases := entries.map fun n => n.weight * driverMass b n.consumer
  if bases.any (0 < ·) then bookParts (fun _ => .producing) entries (split q bases) b
  else bookParts (fun _ => .standby) entries (split q (entries.map Entry.weight)) b

/-- A channel's open pool settled into the open bank with a list, and then 0 (R55). -/
def settleOpenPool (c : Chan) (entries : List Entry) (s : State) : State :=
  let q := s.pools[c]
  (s.setOpenBank (settle entries q.opened s.openBank)).setPool c { q with opened := 0 }

/-- A channel's closing pool settled into the closing bank with the snapshot's list, and then 0 (R54). A pool of 0
settles without booking anything. -/
def settleClosingPool (snap : Snapshot) (c : Chan) (s : State) : State :=
  let q := s.pools[c]
  match snap.lists[c] with
  | none => s
  | some l => (s.setClosingBank (settle l q.closing s.closingBank)).setPool c { q with closing := 0 }

/-- CLOSING_POOL_SETTLE: stage 1 of the close for one channel (R54, R119). Outside a close every closing pool is 0 and
nothing is settled. -/
def execClosingPoolSettle (c : Chan) (s : State) : Host.Outcome State Fault Refusal :=
  .next (match s.interval.closing with
    | none => s
    | some k => settleClosingPool k.snapshot c s)

/-! ## Reading the open bank (R59, R60) -/

def BookingClass.code : BookingClass → Nat | .producing => 0 | .standby => 1

/-- The header of every LIVE_READ reply (R59). -/
def liveHeader (s : State) : List Octet :=
  octets 4 s.interval.number ++ octets 4 s.interval.startTime ++ yesNo s.interval.closing.isSome ++
    octets 6 s.openBank.metered ++ yesNo s.openBank.saturated

/-- R59, R60: a consumer's scope 0 to 16, or 255 for POOLS. -/
def reqLiveRead (scope : Nat) (s : State) : Taken :=
  if scope = 255 then
    accept s (liveHeader s ++ (List.finRange 32).flatMap fun c =>
      octets 1 c.val ++ octets 1 s.config.channels[c].mode.code ++ octets 6 s.pools[c].opened ++
        octets 6 s.pools[c].closing)
  else
    match consumerOf scope with
    | none => refuse s .range
    | some .common => accept s (liveHeader s ++ octets 6 s.openBank.common)
    | some (.furnace f) =>
      let a := s.openBank.furnaces[f]
      let on := s.config.furnaces[f].enabled
      accept s (liveHeader s ++ yesNo on ++
        optional (fun x => octets 1 (FurnaceState.code x)) (if on then s.furnaces[f].state else none) ++
        optional (fun x => octets 1 (BookingClass.code x)) (if on then some (classOf s (.furnace f)) else none) ++
        octets 6 a.producing ++ octets 6 a.standby ++ octets 6 a.melted ++ octets 6 a.pulled ++ octets 6 a.cullet ++
        octets 6 a.unbacked ++ octets 6 a.drained)
    | some (.line l) =>
      let a := s.openBank.lines[l]
      let on := s.config.lines[l].enabled
      accept s (liveHeader s ++ yesNo on ++
        optional (fun x => octets 1 (LineState.code x)) (if on then s.lines[l].state else none) ++
        optional (fun x => octets 1 (BookingClass.code x)) (if on then some (classOf s (.line l)) else none) ++
        octets 6 a.producing ++ octets 6 a.standby ++ octets 6 a.pulled ++ octets 6 a.packed ++ octets 6 a.change)

def execLiveRead (p : Port) (tag : Octet) (scope : Nat) (s : State) : Host.Outcome State Fault Refusal :=
  .next (serve p tag (.liveRead scope) (reqLiveRead scope) s)

end Sys2Proof.Machine
end

