-- ==== Sys2Proof/Machine/Channels.lean ====
section
/-! DEFINITION. Metering channels: kinds of channel, the taking of readings, the conversion to energy, the channel states,
and the commands of chapter 1. -/

namespace Sys2Proof.Machine

/-! ## Kinds of channel (R1, R3, R17) -/

/-- A SLOT channel whose expected module is PULSE. -/
def ChannelConfig.isPulse (g : ChannelConfig) : Bool := g.source == .slot && g.expected == .pulse
/-- A SLOT channel whose expected module is SERIAL. -/
def ChannelConfig.isSerial (g : ChannelConfig) : Bool := g.source == .slot && g.expected == .serial
/-- A serial channel, or a PORT channel with reading kind TOTAL. -/
def ChannelConfig.isTotal (g : ChannelConfig) : Bool := g.isSerial || (g.source == .port && g.kind == .total)

/-- Whether a module is of the type the channel expects (R4). -/
def ModuleType.suits (m : ModuleType) : Expected → Bool
  | .pulse => m != .serial4
  | .serial => m == .serial4

/-- The prescaler of a slot's module: 16 for PULSE4F, else 1 (R15). -/
def SlotState.prescaler : SlotState → Nat
  | .ready .pulse4f => 16
  | _ => 1

/-- Channel states in which readings are taken (R11). -/
def ChannelState.takesReadings : ChannelState → Bool
  | .basing | .live | .stale => true
  | _ => false

/-- R34: a position is pollable while its slot is READY with a SERIAL4 module and its channel is an active serial
channel in BASING, LIVE or STALE. -/
def pollable (s : State) (c : Chan) : Bool :=
  s.slots[slotOf c].state == .ready .serial4 && s.config.channels[c].active && s.config.channels[c].isSerial &&
    s.channels[c].state.takesReadings

/-! ## Conversion (R18 to R20) -/

/-- The factor of a carrier's set. -/
def CarrierConfig.factor (k : CarrierConfig) : SetName → Nat | .a => k.factorA | .b => k.factorB
/-- The set trim of a carrier's set. -/
def CarrierConfig.trim (k : CarrierConfig) : SetName → Int | .a => k.trimA | .b => k.trimB

/-- The units of carry in one kilojoule (R19). -/
def carryUnit : Nat := 10 ^ 11

/-- The product P = u f (10,000 + ts) (10,000 + tm) of a conversion, with the channel's selected set (R19). -/
def product (g : Configuration) (c : Chan) (u : Nat) : Nat :=
  let ch := g.channels[c]
  let k := g.carriers[ch.carrier.index]
  u * k.factor ch.set * (10000 + k.trim ch.set).toNat * (10000 + ch.trim).toNat

/-- R16: an increment above 0 goes to the prover if the channel is under prove, is converted with the carry, and its
energy is handed to the attribution unit. Answers the state and the energy. -/
def handOn (c : Chan) (u : Nat) (tag : Option Consumer) (s : State) : State × Nat :=
  if u = 0 then (s, 0)
  else
    let s := if s.channels[c].underProve then addChannelUnits u s else s
    let r := s.channels[c]
    let sum := product s.config c u + r.carry
    let e := sum / carryUnit
    (placeIncrement c e tag (s.setChannel c { r with carry := sum % carryUnit }), e)

/-! ## Taking a reading (R11 to R15) -/

/-- The outcomes of a METER_POST that is taken (R22). -/
inductive ReadingOutcome where
  | based | booked | backstep | clamped
deriving DecidableEq, Repr

def ReadingOutcome.code : ReadingOutcome → Nat | .based => 0 | .booked => 1 | .backstep => 2 | .clamped => 3

/-- The elapsed time of R12: raised to 1 and lowered to 86,400. -/
def elapsed (now last : Nat) : Nat := max 1 (min (now - last) 86400)

/-- The limit of a reading: rate ceiling times elapsed time (R12). -/
def readingLimit (s : State) (c : Chan) : Nat :=
  s.config.channels[c].rateCeiling * elapsed s.interval.plantTime s.channels[c].lastReading

/-- The forward distance from a base to a reading modulo the rollover modulus (R14). -/
def forward (modulus base v : Nat) : Nat := (((v : Int) - base) % modulus).toNat

/-- What a reading is classed as, with its increment: the three cases of R14. -/
def classify (modulus limit base v : Nat) : ReadingOutcome × Nat :=
  let d := forward modulus base v
  if d ≤ limit then (.booked, d)
  else if modulus - d ≤ limit then (.backstep, 0)
  else (.clamped, limit)

/-- An accepted reading sets the last reading time and takes the channel to LIVE (R11, R13 to R15). -/
def acceptReading (c : Chan) (base : Option Nat) (s : State) : State :=
  s.setChannel c
    { s.channels[c] with state := .live, base := base, lastReading := s.interval.plantTime }

/-- The alert a reading's outcome raises (R14, R15, R24). -/
def raiseReading (c : Chan) (o : ReadingOutcome) (s : State) : State :=
  match o with
  | .backstep => raise .readingBackstep (some c.val) s
  | .clamped => raise .readingClamped (some c.val) s
  | _ => s

/-- What taking a reading leaves: the state, the outcome, the raw increment and the energy handed on. -/
structure Reading where
  after     : State
  outcome   : ReadingOutcome
  increment : Nat
  energy    : Nat

/-- A reading of a given outcome, increment and new base is accepted, raises its alert and hands its increment on. -/
def finishReading (c : Chan) (o : ReadingOutcome) (u : Nat) (base : Option Nat) (tag : Option Consumer) (s : State) :
    Reading :=
  let h := handOn c u tag (raiseReading c o (acceptReading c base s))
  ⟨h.1, o, u, h.2⟩

/-- A TOTAL reading: it sets an absent base (R13), or is classed against the base (R14). A backstep keeps the base. -/
def takeTotal (c : Chan) (v : Nat) (tag : Option Consumer) (s : State) : Reading :=
  match s.channels[c].base with
  | none => ⟨acceptReading c (some v) s, .based, 0, 0⟩
  | some b =>
    let k := classify s.config.channels[c].modulus (readingLimit s c) b v
    finishReading c k.1 k.2 (some (if k.1 = .backstep then b else v)) tag s

/-- A DELTA reading, held to the limit (R15). `base` is the base after it. -/
def takeDelta (c : Chan) (delta : Nat) (base : Option Nat) (tag : Option Consumer) (s : State) : Reading :=
  let limit := readingLimit s c
  if limit < delta then finishReading c .clamped limit base tag s
  else finishReading c .booked delta base tag s

/-- A pulse sample of one channel: a LIVE pulse channel takes its counter's change from its base, times pulse weight
and prescaler, as a DELTA reading (R15, R33). -/
def samplePulse (c : Chan) (s : State) : State :=
  let g := s.config.channels[c]
  let r := s.channels[c]
  if g.active ∧ g.isPulse ∧ r.state = .live then
    let count := (s.position c).counter
    let change := (((count : Int) - (r.base.getD count : Nat)) % 65536).toNat
    (takeDelta c (change * g.pulseWeight * s.slots[slotOf c].state.prescaler) (some count) none s).after
  else s

/-! ## Channel states (R4 to R9) -/

/-- A channel is sent to a state; a run under prove on it is aborted in the same step where it leaves LIVE (R152). -/
def sendChannel (c : Chan) (st : ChannelState) (s : State) : State :=
  let s := if st = .live then s else abortRun c s
  s.setChannel c { s.channels[c] with state := st }

/-- Entry to STALE: the state and CHANNEL_STALE (R9). -/
def enterStale (c : Chan) (s : State) : State := raise .channelStale (some c.val) (sendChannel c .stale s)

/-- R7: a channel of a slot leaving READY. -/
def channelSlotLost (c : Chan) (s : State) : State :=
  let g := s.config.channels[c]
  if g.active ∧ g.source = .slot then
    match s.channels[c].state with
    | .basing | .live | .stale => raise .channelOffline (some c.val) (sendChannel c (.offline .slotNotReady) s)
    | .offline _ => sendChannel c (.offline .slotNotReady) s
    | .inactive => s
  else s

/-- R8: an OFFLINE channel of a slot entering READY with a module. -/
def channelSlotReady (m : ModuleType) (c : Chan) (s : State) : State :=
  let g := s.config.channels[c]
  let r := s.channels[c]
  match g.active, g.source, r.state with
  | true, .slot, .offline _ =>
    if m.suits g.expected then
      match g.expected with
      | .pulse =>
        s.setChannel c
          { r with state := .live, base := some (s.position c).counter, lastReading := s.interval.plantTime }
      | .serial => s.setChannel c { r with state := if r.base.isSome then .live else .basing }
    else raise .moduleMismatch (some c.val) (s.setChannel c { r with state := .offline .mismatch })
  | _, _, _ => s

/-- R38: the slot's poll in flight is abandoned if it is the channel's. -/
def abandonPoll (c : Chan) (s : State) : State :=
  let sr := s.slots[slotOf c]
  match sr.poll with
  | some q => if q.position = positionOf c then s.setSlot (slotOf c) { sr with poll := none } else s
  | none => s

/-- R35, R38: a position whose channel has become pollable is due now with no failed polls; one that is not pollable
has no next poll due. -/
def renewPolling (c : Chan) (s : State) : State :=
  let pr := s.position c
  if pollable s c then s.setPosition c { pr with nextDue := some s.clock, failed := 0 }
  else s.setPosition c { pr with nextDue := none }

/-- The state and base that activation gives a channel against its slot (the table of R4). -/
def activatedState (s : State) (c : Chan) : ChannelState × Option Nat :=
  let g := s.config.channels[c]
  match g.source with
  | .port => (if g.kind = .total then .basing else .live, none)
  | .slot =>
    match s.slots[slotOf c].state with
    | .ready m =>
      if m.suits g.expected then
        match g.expected with
        | .pulse => (.live, some (s.position c).counter)
        | .serial => (.basing, none)
      else (.offline .mismatch, none)
    | _ => (.offline .slotNotReady, none)

/-- R4: activation against the state of the channel's slot. The carry and the prove record are kept. -/
def activate (c : Chan) (s : State) : State :=
  let t := activatedState s c
  let s := s.setChannel c
    { s.channels[c] with state := t.1, base := t.2, lastReading := s.interval.plantTime }
  let s := renewPolling c s
  if t.1 = .offline .mismatch then raise .moduleMismatch (some c.val) s else s

/-- R5: deactivation; R38 and R152 as it leaves its state. -/
def deactivate (c : Chan) (s : State) : State :=
  let s := abandonPoll c (sendChannel c .inactive s)
  renewPolling c (s.setChannel c { s.channels[c] with base := none, carry := 0 })

/-- R6: whether an adoption changes the metering identity. A field counts only where it applies under the new
configuration (R3). -/
def identityChanged (old new : ChannelConfig) : Bool :=
  old.source != new.source || old.carrier != new.carrier ||
  (new.source == .slot && old.expected != new.expected) ||
  (new.source == .port && old.kind != new.kind) ||
  (new.isTotal && old.modulus != new.modulus) ||
  (new.isSerial && old.address != new.address)

/-- R9: a PORT channel's stale time has run out. -/
def staleTimeOut (s : State) (c : Chan) : Bool :=
  let g := s.config.channels[c]
  let r := s.channels[c]
  g.active && g.source == .port && (r.state == .basing || r.state == .live) &&
    decide (r.lastReading + g.staleTime ≤ s.interval.plantTime)

/-- The effects of a channel's new values, once they stand in the committed configuration (R4 to R6). A fresh
activation leaves the present state, so it aborts a run even when the channel comes back to LIVE (R152). -/
def adoptChannel (c : Chan) (old new : ChannelConfig) (s : State) : State :=
  match old.active, new.active with
  | false, false => s
  | false, true => activate c s
  | true, false => deactivate c s
  | true, true =>
    if identityChanged old new then activate c (abandonPoll c (abortRun c s))
    else if old.staleTime ≠ new.staleTime ∧ staleTimeOut s c then enterStale c s
    else s

/-- STALE_TIME_EXPIRY (R9). A PORT channel whose stale time has not run out is left as it is. -/
def execStaleTimeExpiry (c : Chan) (s : State) : Host.Outcome State Fault Refusal :=
  .next (if staleTimeOut s c then enterStale c s else s)

/-- R10: every channel that is not INACTIVE takes a new plant time as its last reading time. -/
def restampChannels (t : Nat) (s : State) : State :=
  let stamp (r : ChannelRecord) : ChannelRecord := if r.state = .inactive then r else { r with lastReading := t }
  { s with channels := Vector.ofFn fun c : Chan => stamp s.channels[c] }

/-! ## Commands -/

/-- R22. The first failing check gives the reply. -/
def reqMeterPost (channel value : Nat) (tag : Option Nat) (s : State) : Taken :=
  if h : channel < 32 then
    let c : Chan := ⟨channel, h⟩
    let g := s.config.channels[c]
    if tag.any (16 < ·) then refuse s .range
    else if s.channels[c].state = .inactive then refuse s .notConfigured
    else if g.source = .slot then refuse s .wrongSource
    else if g.mode = .tagged ∧ tag = none then refuse s .tagRequired
    else if (g.kind = .total ∧ g.modulus ≤ value) ∨ (g.kind = .delta ∧ 2 ^ 40 - 1 < value) then refuse s .range
    else
      let n := tag.bind consumerOf
      let k := if g.kind = .total then takeTotal c value n s else takeDelta c value s.channels[c].base n s
      accept k.after (octets 1 k.outcome.code ++ octets 6 k.increment ++ octets 8 k.energy ++
        octets 1 k.after.channels[c].state.code)
  else refuse s .range

/-- The coding of a prove record (R23). -/
def ProveRecord.octets (r : ProveRecord) : List Octet :=
  Machine.octets 1 r.outcome.code ++ signedOctets 3 r.deviation ++ Machine.octets 8 r.channelUnits ++
    Machine.octets 8 r.referenceUnits ++ Machine.octets 4 r.endTime

/-- The count of consecutive failed polls as CHANNEL_READ shows it: 0 for a channel that is not serial (R23). -/
def failedPolls (s : State) (c : Chan) : Nat := if s.config.channels[c].isSerial then (s.position c).failed else 0

/-- R23. -/
def reqChannelRead (channel : Nat) (s : State) : Taken :=
  if h : channel < 32 then
    let c : Chan := ⟨channel, h⟩
    let g := s.config.channels[c]
    let r := s.channels[c]
    let k := s.config.carriers[g.carrier.index]
    accept s (octets 1 r.state.code ++ optional (fun x => octets 1 (OfflineCause.code x)) r.state.cause ++
      optional (octets 6) r.base ++ octets 4 r.lastReading ++ octets 6 r.carry ++ octets 1 g.set.code ++
      octets 3 (k.factor g.set) ++ signedOctets 2 (k.trim g.set) ++ signedOctets 2 g.trim ++
      octets 1 (failedPolls s c) ++ yesNo r.underProve ++ r.prove.octets)
  else refuse s .range

/-- R17. -/
def reqChannelRebase (channel : Nat) (s : State) : Taken :=
  if h : channel < 32 then
    let c : Chan := ⟨channel, h⟩
    let st := s.channels[c].state
    if st = .inactive then refuse s .notConfigured
    else if s.config.channels[c].isTotal ∧ (st = .live ∨ st = .stale) then
      let s' := sendChannel c .basing s
      accept (s'.setChannel c { s'.channels[c] with base := none, lastReading := s.interval.plantTime })
    else refuse s .wrongState (octets 1 st.code)
  else refuse s .range

/-- The lowest channel of a carrier whose CHANNEL region another port holds, with its holder (R21). -/
def switchBlocker (p : Port) (k : Carrier) (s : State) : Option (Chan × Port) :=
  (List.finRange 32).findSome? fun c =>
    if s.config.channels[c].carrier = k then
      match s.locks[channelRegion c].hold with
      | some h => if h.port = p then none else some (c, h.port)
      | none => none
    else none

/-- Whether SET_SWITCH moves a channel (R21). -/
def switchMoves (g : ChannelConfig) (k : Carrier) (x : SetName) : Bool := g.active && g.carrier == k && g.set != x

/-- A configuration with every active channel of a carrier moved to a set (R21). -/
def switched (g : Configuration) (k : Carrier) (x : SetName) : Configuration :=
  let move (v : ChannelConfig) : ChannelConfig := if switchMoves v k x then { v with set := x } else v
  { g with channels := Vector.ofFn fun c : Chan => move g.channels[c] }

/-- R21. SET_UNSET is reason 6 of R165's list, numbered from 0. -/
def reqSetSwitch (p : Port) (carrier set : Nat) (s : State) : Taken :=
  match carrierOf carrier with
  | none => refuse s .range
  | some k =>
    if 1 < set then refuse s .range
    else
      let x := setNameOf set
      if (s.config.carriers[k.index]).factor x = 0 then refuse s .rejected (octets 1 6)
      else
        match switchBlocker p k s with
        | some b => refuse s .locked (octets 1 b.1.val ++ octets 1 b.2.val)
        | none =>
          let moved := (List.finRange 32).countP fun c => switchMoves s.config.channels[c] k x
          accept (s.setConfig (switched s.config k x)) (octets 1 moved)

def execMeterPost (p : Port) (tag : Octet) (channel value : Nat) (postTag : Option Nat) (s : State) :
    Host.Outcome State Fault Refusal :=
  .next (serve p tag (.meterPost channel value postTag) (reqMeterPost channel value postTag) s)

def execChannelRead (p : Port) (tag : Octet) (channel : Nat) (s : State) : Host.Outcome State Fault Refusal :=
  .next (serve p tag (.channelRead channel) (reqChannelRead channel) s)

def execChannelRebase (p : Port) (tag : Octet) (channel : Nat) (s : State) : Host.Outcome State Fault Refusal :=
  .next (serve p tag (.channelRebase channel) (reqChannelRebase channel) s)

def execSetSwitch (p : Port) (tag : Octet) (carrier set : Nat) (s : State) : Host.Outcome State Fault Refusal :=
  .next (serve p tag (.setSwitch carrier set) (reqSetSwitch p carrier set) s)

end Sys2Proof.Machine
end

