-- ==== Sys2Proof/Machine/Slots.lean ====
section
/-! DEFINITION. The slot interface: sensing, entering and leaving READY, pulse counters, serial polls and SLOT_READ
(chapter 2). -/

namespace Sys2Proof.Machine

/-- The channels of a slot, in position order. -/
def channelsOf (sl : Slot) : List Chan := (List.finRange 4).map (chanAt sl)

/-! ## Sensing (R26 to R31) -/

/-- R30: what leaving READY does. The poll in flight is abandoned, the counters keep their values, next polls due and
failed polls are cleared, and the channels of the slot go OFFLINE. -/
def leaveReady (sl : Slot) (s : State) : State :=
  let sr := s.slots[sl]
  let s := s.setSlot sl
    { sr with poll := none,
              positions := Vector.ofFn fun q : Position => { sr.positions[q] with nextDue := none, failed := 0 } }
  forEach (channelsOf sl) channelSlotLost s

/-- PRESENCE_CHANGE (R26): the slot goes to SENSING from any state with both timers restarted; from READY it leaves
READY. A report of the levels the lines already have is no change of a line (log entry 15). -/
def execPresenceChange (sl : Slot) (a b : Bool) (s : State) : Host.Outcome State Fault Refusal :=
  .next (
    let sr := s.slots[sl]
    if sr.sense.a = a ∧ sr.sense.b = b then s
    else
      let wasReady := sr.state.module.isSome
      let s := s.setSlot sl
        { sr with state := .sensing, sense := { sr.sense with a := a, b := b }, settleDue := some (s.clock + 500),
                  partialDue := some (s.clock + 2000) }
      if wasReady then leaveReady sl s else s)

/-- CODE_LINE_CHANGE (R26): the sense levels follow; in SENSING the settle timer alone restarts. -/
def execCodeLineChange (sl : Slot) (k1 k2 : Bool) (s : State) : Host.Outcome State Fault Refusal :=
  .next (
    let sr := s.slots[sl]
    if sr.sense.k1 = k1 ∧ sr.sense.k2 = k2 then s
    else
      s.setSlot sl
        { sr with sense := { sr.sense with k1 := k1, k2 := k2 },
                  settleDue := if sr.state = .sensing then some (s.clock + 500) else sr.settleDue })

/-- R29: the positions prepared for the decoded module type. -/
def preparePositions (m : ModuleType) (ps : Vector PositionRecord 4) : Vector PositionRecord 4 :=
  Vector.ofFn fun q : Position =>
    if m = .serial4 then { ps[q] with nextDue := none, failed := 0 }
    else { ps[q] with counter := 0, nextDue := none }

/-- R29: a slot enters READY. Its positions are prepared, its OFFLINE channels are taken through R8, and the meters of
pollable positions are due at once. -/
def enterReady (sl : Slot) (m : ModuleType) (s : State) : State :=
  let sr := s.slots[sl]
  let s := s.setSlot sl
    { sr with state := .ready m, settleDue := none, partialDue := none, positions := preparePositions m sr.positions }
  let s := forEach (channelsOf sl) (channelSlotReady m) s
  if m = .serial4 then forEach (channelsOf sl) renewPolling s else s

/-- R31: a slot enters REJECTED with a reason and raises MODULE_REJECTED. -/
def enterRejected (sl : Slot) (why : RejectReason) (s : State) : State :=
  raise .moduleRejected (some sl.val)
    (s.setSlot sl { s.slots[sl] with state := .rejected why, settleDue := none, partialDue := none })

/-- SETTLE_TIMER_EXPIRY (R27): at the timer's time the slot decodes its lines as they stand. With one presence line asserted it stays in
SENSING for the partial timer to decide, unless that timer has expired already (R28). -/
def execSettleTimerExpiry (sl : Slot) (s : State) : Host.Outcome State Fault Refusal :=
  .next (
    let sr := s.slots[sl]
    if sr.state = .sensing ∧ reached s sr.settleDue then
      let s := s.setSlot sl { sr with settleDue := none }
      match sr.sense with
      | ⟨true, true, false, false⟩ => enterReady sl .pulse4 s
      | ⟨true, true, false, true⟩ => enterReady sl .pulse4f s
      | ⟨true, true, true, false⟩ => enterReady sl .serial4 s
      | ⟨true, true, true, true⟩ => enterRejected sl .unrecognised s
      | ⟨false, false, _, _⟩ =>
        s.setSlot sl { s.slots[sl] with state := .empty, partialDue := none }
      | _ => if sr.partialDue = none then enterRejected sl .partly s else s
    else s)

/-- PARTIAL_TIMER_EXPIRY (R28). At the timer's time it stops; with one presence line asserted the slot is rejected now, or
at the settle expiry where the settle timer is still running. With both or neither asserted the timer only stops, and the
settle expiry decodes: R28 says that this does not arise, but code lines that keep changing reach it. DESIGN CHOICE, log
entry 25. -/
def execPartialTimerExpiry (sl : Slot) (s : State) : Host.Outcome State Fault Refusal :=
  .next (
    let sr := s.slots[sl]
    if sr.state = .sensing ∧ reached s sr.partialDue then
      let s := s.setSlot sl { sr with partialDue := none }
      if sr.sense.a ≠ sr.sense.b ∧ sr.settleDue = none then enterRejected sl .partly s else s
    else s)

/-! ## Pulse modules (R32, R33) -/

/-- Whether a slot is READY with a PULSE4 or PULSE4F module. -/
def SlotState.counts : SlotState → Bool
  | .ready .pulse4 | .ready .pulse4f => true
  | _ => false

/-- PULSE_INPUT (R32): one count of a position's module, modulo 65,536, while the slot is READY with a pulse module. -/
def execPulseInput (sl : Slot) (pos : Position) (s : State) : Host.Outcome State Fault Refusal :=
  .next (
    let c := chanAt sl pos
    if s.slots[slotOf c].state.counts then
      s.setPosition c { s.position c with counter := ((s.position c).counter + 1) % 65536 }
    else s)

/-- PULSE_SAMPLE (R33): every LIVE pulse channel of a slot READY with a pulse module takes its counter's change. The
samples come once every second of the part's own clock. -/
def execPulseSample (s : State) : Host.Outcome State Fault Refusal :=
  .next (
    let s := { s.reach s.sampleDue with sampleDue := s.sampleDue + 1000 }
    forEach (List.finRange 32) (fun c s => if s.slots[slotOf c].state.counts then samplePulse c s else s) s)

/-! ## Serial modules (R34 to R38) -/

/-- The pollable positions of a slot with the times their polls are due, in position order. -/
def dueTimes (sl : Slot) (s : State) : List (Chan × Nat) :=
  (channelsOf sl).filterMap fun c => if pollable s c then (s.position c).nextDue.map fun t => (c, t) else none

/-- The lowest-numbered position of a slot whose poll is due (R35). -/
def firstDue (sl : Slot) (s : State) : Option Chan :=
  ((dueTimes sl s).find? fun ct => ct.2 ≤ s.clock).map Prod.fst

/-- POLL_START (R35): with no poll in flight, the lowest-numbered due position is polled. With no position due, or a poll
in flight, no poll is started (log entries 13 and 23). -/
def execPollStart (sl : Slot) (s : State) : Host.Outcome State Fault Refusal :=
  .next (
    match s.slots[sl].poll, firstDue sl s with
    | none, some c =>
      let g := s.config.channels[c]
      let s := s.setPosition c { s.position c with nextDue := some (s.clock + seconds g.pollPeriod) }
      let sr := s.slots[sl]
      s.setSlot sl
        { sr with
          poll := some { position := positionOf c, address := g.address, limit := s.clock + 200 },
          polls := sr.polls + 1 }
    | _, _ => s)

/-- R37: a failed poll. The count stays at 3; with it a channel in BASING or LIVE goes to STALE. So does, at its very next
failed poll, a channel in BASING whose count CHANNEL_REBASE left at 3 (R38), which R9 and R37 do not settle. DESIGN CHOICE,
log entry 24. -/
def failPoll (c : Chan) (s : State) : State :=
  let pr := s.position c
  let n := min 3 (pr.failed + 1)
  let s := s.setPosition c { pr with failed := n }
  if n = 3 ∧ (s.channels[c].state = .basing ∨ s.channels[c].state = .live) then enterStale c s else s

/-- The poll of a slot ends: the slot has no poll in flight (R35). -/
def endPoll (sl : Slot) (s : State) : State := s.setSlot sl { s.slots[sl] with poll := none }

/-- POLL_REPLY (R36, R37): a reply to the poll in flight, within its limit, ends it. A reply to an earlier poll, abandoned
or failed, and one that comes after the limit are late, and are discarded (R30, R36, R38; log entry 6). -/
def execPollReply (poll : PollRef) (checkPassed : Bool) (address value : Nat) (s : State) :
    Host.Outcome State Fault Refusal :=
  .next (
    let sl := poll.slot
    match s.slots[sl].poll with
    | none => s
    | some q =>
      if poll.number = s.slots[sl].polls ∧ s.clock ≤ q.limit then
        let c := chanAt sl q.position
        let s := endPoll sl s
        if checkPassed ∧ address = q.address ∧ value < s.config.channels[c].modulus then
          (takeTotal c value none (s.setPosition c { s.position c with failed := 0 })).after
        else failPoll c s
      else s)

/-- REPLY_LIMIT_EXPIRY (R37): at the limit of the poll in flight, it fails. -/
def execReplyLimitExpiry (sl : Slot) (s : State) : Host.Outcome State Fault Refusal :=
  .next (
    match s.slots[sl].poll with
    | none => s
    | some q => if q.limit ≤ s.clock then failPoll (chanAt sl q.position) (endPoll sl s) else s)

/-! ## SLOT_READ (R39) -/

/-- A position's entry of a SLOT_READ reply. -/
def positionCode (s : State) (c : Chan) : List Octet :=
  let pr := s.position c
  octets 1 c.val ++ octets 1 s.channels[c].state.code ++ octets 2 pr.counter ++
    optional (fun t => octets 2 (t - s.clock)) (if pollable s c then pr.nextDue else none) ++
    octets 1 (failedPolls s c)

/-- A sense level: asserted and not asserted, open and grounded, each numbered in the order of the table of 2.1. -/
def senseCode (g : Sense) : List Octet :=
  yesNo g.a ++ yesNo g.b ++ octets 1 (if g.k1 then 1 else 0) ++ octets 1 (if g.k2 then 1 else 0)

/-- R39. -/
def reqSlotRead (slot : Nat) (s : State) : Taken :=
  if h : slot < 8 then
    let sr := s.slots[slot]
    accept s (octets 1 sr.state.code ++ optional (fun m => octets 1 (ModuleType.code m)) sr.state.module ++
      optional (fun r => octets 1 (RejectReason.code r)) sr.state.reason ++ senseCode sr.sense ++
      optional (fun q => octets 1 (Poll.position q).val) sr.poll ++
      (channelsOf ⟨slot, h⟩).flatMap (positionCode s))
  else refuse s .range

def execSlotRead (p : Port) (tag : Octet) (slot : Nat) (s : State) : Host.Outcome State Fault Refusal :=
  .next (serve p tag (.slotRead slot) (reqSlotRead slot) s)

end Sys2Proof.Machine
end

