-- ==== Sys2Proof/Machine/Furnaces.lean ====
section
/-! DEFINITION. The furnace units: states and their requests, charges, the melt inventory queue and its draws, and
QUEUE_READ (chapter 4). -/

namespace Sys2Proof.Machine

/-! ## State requests (R64 to R70) -/

/-- Whether an enabled line is fed by a furnace, as committed (R65). -/
def feeds (s : State) (f : Furnace) (l : Line) : Bool := s.config.lines[l].enabled && s.config.lines[l].feeding == f

/-- The lowest line fed by a furnace whose state fails a condition, with that state (R65). -/
def firstLine (s : State) (f : Furnace) (bad : Option LineState → Bool) : Option Line :=
  (List.finRange 12).find? fun l => feeds s f l && bad s.lines[l].state

/-- FURNACE_HOLD is refused while a line the furnace feeds is in a working state (R66). -/
def blocksHold (st : Option LineState) : Bool := st.any LineState.working
/-- FURNACE_SHUTDOWN is refused unless every line the furnace feeds is COLD (R68). -/
def blocksShutdown (st : Option LineState) : Bool := st != some .cold

/-- The reply fields of a line state that may be absent. -/
def lineStateCode (st : Option LineState) : List Octet := optional (fun x => octets 1 (LineState.code x)) st
/-- The reply fields of a furnace state that may be absent. -/
def furnaceStateCode (st : Option FurnaceState) : List Octet := optional (fun x => octets 1 (FurnaceState.code x)) st

/-- A LINES_ACTIVE reply: the line and its state (R65). -/
def linesActive (s : State) (l : Line) : Taken :=
  refuse s .linesActive (octets 1 l.val ++ octets 1 ((s.lines[l].state).map LineState.code |>.getD 0))

/-- The checks of R65 in their order, and then what a taken request does; the reply carries the new state. -/
def furnaceRequest (furnace : Nat) (source target : FurnaceState) (bad : Option LineState → Bool)
    (effect : Furnace → State → State) (s : State) : Taken :=
  if h : furnace < 4 then
    let f : Furnace := ⟨furnace, h⟩
    if s.config.furnaces[f].enabled then
      match s.furnaces[f].state with
      | none => refuse s .wrongState (octets 1 0)
      | some st =>
        if st = source then
          match firstLine s f bad with
          | some l => linesActive s l
          | none =>
            let s' := effect f s
            accept (s'.setFurnace f { s'.furnaces[f] with state := some target }) (octets 1 target.code)
        else refuse s .wrongState (octets 1 st.code)
    else refuse s .notConfigured
  else refuse s .range

/-- R69: the queue is drained into the furnace's drained mass in the open bank; serial and last cullet are kept. -/
def drain (f : Furnace) (s : State) : State :=
  let r := s.furnaces[f]
  (s.book (.furnace f .drained) r.inventoryMass).setFurnace f
    { r with queue := [], inventoryMass := 0, inventoryCullet := 0 }

/-- R66. -/
def reqFurnaceHold (furnace : Nat) (s : State) : Taken :=
  furnaceRequest furnace .melting .hold blocksHold (fun _ s => s) s
/-- R67. -/
def reqFurnaceResume (furnace : Nat) (s : State) : Taken :=
  furnaceRequest furnace .hold .melting (fun _ => false) (fun _ s => s) s
/-- R68. -/
def reqFurnaceShutdown (furnace : Nat) (s : State) : Taken :=
  furnaceRequest furnace .hold .cold blocksShutdown drain s
/-- R70. -/
def reqFurnaceWarm (furnace : Nat) (s : State) : Taken :=
  furnaceRequest furnace .cold .hold (fun _ => false) (fun _ s => s) s

/-! ## Opening records, enabling and disabling (R71, R73) -/

/-- The opening record of an opening inventory, at a plant time; none where the mass is 0 (R73). -/
def openingQueue (mass cullet t : Nat) : List Charge :=
  if mass = 0 then []
  else
    let k := mass * cullet / 1000
    [{ serial := 0, arrival := t, originalMass := mass, originalCullet := k, remainingMass := mass,
       remainingCullet := k }]

/-- A furnace record as its configuration starts it: HOLD with its opening record if enabled, else with state absent
and an empty queue (R63, R71, R73). -/
def startFurnace (g : FurnaceConfig) (t : Nat) : FurnaceRecord :=
  if g.enabled then
    { state := some .hold, lastSerial := 0, lastCullet := g.openingCullet,
      queue := openingQueue g.openingMass g.openingCullet t, inventoryMass := g.openingMass,
      inventoryCullet := g.openingMass * g.openingCullet / 1000 }
  else
    { state := none, lastSerial := 0, lastCullet := g.openingCullet, queue := [], inventoryMass := 0,
      inventoryCullet := 0 }

/-- R71: what the adoption of a furnace's region does to its unit. -/
def adoptFurnace (f : Furnace) (old new : FurnaceConfig) (s : State) : State :=
  match old.enabled, new.enabled with
  | false, true => s.setFurnace f (startFurnace new s.interval.plantTime)
  | true, false =>
    let s := drain f s
    s.setFurnace f { s.furnaces[f] with state := none }
  | _, _ => s

/-! ## Charges (R72 to R76) -/

inductive ChargeOutcome where
  | appended | merged | noMass
deriving DecidableEq, Repr

def ChargeOutcome.code : ChargeOutcome → Nat | .appended => 0 | .merged => 1 | .noMass => 2

/-- The record mass of a charge: its batch less the loss on ignition, plus its cullet (R74). -/
def chargeMass (loi batch cullet : Nat) : Nat := batch * (1000 - loi) / 1000 + cullet

/-- A charge merged into the newest record of a queue (R76). -/
def mergeNewest (serial mass cullet : Nat) (queue : List Charge) : List Charge :=
  queue.modify (queue.length - 1) fun r =>
    { r with serial := serial, originalMass := r.originalMass + mass, originalCullet := r.originalCullet + cullet,
             remainingMass := r.remainingMass + mass, remainingCullet := r.remainingCullet + cullet }

/-- How a charge of a record mass enters a queue (R74). -/
def chargeOutcome (mass : Nat) (queue : List Charge) : ChargeOutcome :=
  if mass = 0 then .noMass else if queue.length < queueLimit then .appended else .merged

/-- A queue with a charge entered (R74 to R76). -/
def enterCharge (serial mass cullet t : Nat) (queue : List Charge) : List Charge :=
  match chargeOutcome mass queue with
  | .noMass => queue
  | .appended =>
    queue ++ [{ serial := serial, arrival := t, originalMass := mass, originalCullet := cullet, remainingMass := mass,
                remainingCullet := cullet }]
  | .merged => mergeNewest serial mass cullet queue

/-- A charge that is taken (R74): melted mass booked, serial set, and the charge entered in the queue. -/
def takeCharge (f : Furnace) (serial batch cullet : Nat) (s : State) : State :=
  let r := s.furnaces[f]
  let mass := chargeMass s.config.furnaces[f].loi batch cullet
  let s := (s.book (.furnace f .melted) mass).setFurnace f
    { r with lastSerial := serial,
             queue := enterCharge serial mass cullet s.interval.plantTime r.queue,
             inventoryMass := r.inventoryMass + mass,
             inventoryCullet := r.inventoryCullet + cullet }
  if chargeOutcome mass r.queue = .merged then raise .queueMerged (some f.val) s else s

/-- R72. The first failing check gives the reply; a DUPLICATE reply carries the last serial. -/
def reqChargePost (furnace serial batch cullet : Nat) (s : State) : Taken :=
  if h : furnace < 4 then
    let f : Furnace := ⟨furnace, h⟩
    if serial = 0 ∨ wordLimit < serial ∨ 20000000 < batch ∨ 20000000 < cullet then refuse s .range
    else if s.config.furnaces[f].enabled = false then refuse s .notConfigured
    else
      let r := s.furnaces[f]
      let mass := chargeMass s.config.furnaces[f].loi batch cullet
      if r.state = some .cold then refuse s .furnaceCold
      else if serial ≤ r.lastSerial then refuse s .duplicate (octets 4 r.lastSerial)
      else if inventoryLimit < r.inventoryMass + mass then refuse s .range
      else
        let s' := takeCharge f serial batch cullet s
        accept s' (octets 1 (chargeOutcome mass r.queue).code ++ octets 6 mass ++ octets 6 cullet ++
          octets 1 s'.furnaces[f].queue.length ++ octets 6 s'.furnaces[f].inventoryMass)
  else refuse s .range

/-! ## Draws (R77 to R80) -/

/-- What a draw takes from a queue: the queue left, the amount the queue could not supply, the cullet taken from
records, and the last cullet permille after it. -/
structure Drawn where
  queue      : List Charge
  unbacked   : Nat
  cullet     : Nat
  lastCullet : Nat
deriving DecidableEq, Repr

/-- A draw of `x` from a queue, oldest record first (R78, R79). -/
def drawQueue (lastCullet : Nat) : Nat → List Charge → Drawn
  | x, [] => ⟨[], x, 0, lastCullet⟩
  | x, r :: rest =>
    if x = 0 then ⟨r :: rest, 0, 0, lastCullet⟩
    else if x < r.remainingMass then
      let k := x * r.remainingCullet / r.remainingMass
      ⟨{ r with remainingMass := r.remainingMass - x, remainingCullet := r.remainingCullet - k } :: rest, 0, k,
        lastCullet⟩
    else
      let d := drawQueue (r.originalCullet * 1000 / r.originalMass) (x - r.remainingMass) rest
      { d with cullet := r.remainingCullet + d.cullet }

/-- A draw of a mass from a furnace, in one step with its bookings (R77, R80). -/
def draw (f : Furnace) (m : Nat) (s : State) : State :=
  let r := s.furnaces[f]
  let d := drawQueue r.lastCullet m r.queue
  let loose := d.unbacked * d.lastCullet / 1000
  let s := s.setFurnace f
    { r with queue := d.queue, lastCullet := d.lastCullet, inventoryMass := r.inventoryMass - (m - d.unbacked),
             inventoryCullet := r.inventoryCullet - d.cullet }
  let s := ((s.book (.furnace f .unbacked) d.unbacked).book (.furnace f .pulled) m).book (.furnace f .cullet)
    (d.cullet + loose)
  if 0 < d.unbacked then raise .inventoryShort (some f.val) s else s

/-! ## Opening inventories for a save (R85) -/

/-- The opening inventory mass and opening cullet that a furnace supplies to a save. -/
def savedInventory (s : State) (f : Furnace) : Nat × Nat :=
  let g := s.config.furnaces[f]
  let r := s.furnaces[f]
  if g.enabled then
    if 0 < r.inventoryMass then (r.inventoryMass, r.inventoryCullet * 1000 / r.inventoryMass) else (0, r.lastCullet)
  else (g.openingMass, g.openingCullet)

/-! ## QUEUE_READ (R82) -/

def Charge.octets (r : Charge) : List Octet :=
  Machine.octets 4 r.serial ++ Machine.octets 4 r.arrival ++ Machine.octets 6 r.originalMass ++
    Machine.octets 6 r.originalCullet ++ Machine.octets 6 r.remainingMass ++ Machine.octets 6 r.remainingCullet

/-- R82. The oldest age is 0 where the arrival time is later than now. -/
def reqQueueRead (furnace start : Nat) (s : State) : Taken :=
  if h : furnace < 4 then
    if start < 64 then
      let f : Furnace := ⟨furnace, h⟩
      let r := s.furnaces[f]
      accept s (octets 1 furnace ++ yesNo s.config.furnaces[f].enabled ++ furnaceStateCode r.state ++
        octets 4 r.lastSerial ++ octets 2 r.lastCullet ++ octets 6 r.inventoryMass ++ octets 6 r.inventoryCullet ++
        octets 1 r.queue.length ++
        optional (fun q => octets 4 (s.interval.plantTime - Charge.arrival q)) r.queue.head? ++ octets 1 start ++
        listOf Charge.octets ((r.queue.drop start).take 16))
    else refuse s .range
  else refuse s .range

def execFurnaceHold (p : Port) (tag : Octet) (furnace : Nat) (s : State) : Host.Outcome State Fault Refusal :=
  .next (serve p tag (.furnaceHold furnace) (reqFurnaceHold furnace) s)

def execFurnaceResume (p : Port) (tag : Octet) (furnace : Nat) (s : State) : Host.Outcome State Fault Refusal :=
  .next (serve p tag (.furnaceResume furnace) (reqFurnaceResume furnace) s)

def execFurnaceShutdown (p : Port) (tag : Octet) (furnace : Nat) (s : State) : Host.Outcome State Fault Refusal :=
  .next (serve p tag (.furnaceShutdown furnace) (reqFurnaceShutdown furnace) s)

def execFurnaceWarm (p : Port) (tag : Octet) (furnace : Nat) (s : State) : Host.Outcome State Fault Refusal :=
  .next (serve p tag (.furnaceWarm furnace) (reqFurnaceWarm furnace) s)

def execChargePost (p : Port) (tag : Octet) (furnace serial batch cullet : Nat) (s : State) :
    Host.Outcome State Fault Refusal :=
  .next (serve p tag (.chargePost furnace serial batch cullet) (reqChargePost furnace serial batch cullet) s)

def execQueueRead (p : Port) (tag : Octet) (furnace start : Nat) (s : State) : Host.Outcome State Fault Refusal :=
  .next (serve p tag (.queueRead furnace start) (reqQueueRead furnace start) s)

end Sys2Proof.Machine
end

