-- ==== Sys2Proof/Machine/Lines.lean ====
section
/-! DEFINITION. The line units: jobs, tallies, the hold handshake, resuming and shutting down, and STATE_READ
(chapter 5). -/

namespace Sys2Proof.Machine

/-! ## Checks common to line requests (R91) -/

/-- The first three checks of R91: the line number and the ranges of the fields, the line enabled, and a state from
which the request is taken. What stands after them gets the line, its record and its state. -/
def lineRequest (line : Nat) (fields : Bool) (taken : LineState → Bool) (s : State)
    (op : Line → LineRecord → LineState → Taken) : Taken :=
  if h : line < 12 then
    let l : Line := ⟨line, h⟩
    if fields = false then refuse s .range
    else if s.config.lines[l].enabled = false then refuse s .notConfigured
    else
      let r := s.lines[l]
      match r.state with
      | none => refuse s .wrongState (octets 1 0)
      | some st => if taken st then op l r st else refuse s .wrongState (octets 1 st.code)
  else refuse s .range

/-! ## Jobs (R92 to R94) -/

/-- A job record whose bases are 0 (R89). -/
def newJob (id gobMass gobsPerCut articleMass : Nat) : Job :=
  { id := id, gobMass := gobMass, gobsPerCut := gobsPerCut, articleMass := articleMass, cutsBase := 0, packedBase := 0 }

/-- A job becomes current: the previous job is discarded, the current one becomes previous with its bases, and the line
is in JOB_CHANGE (R92, R104). -/
def applyJob (j : Job) (r : LineRecord) : LineRecord :=
  { r with state := some .jobChange, current := some j, previous := r.current }

/-- The ranges of a job's fields (R89). -/
def jobInRange (id gobMass gobsPerCut articleMass : Nat) : Bool :=
  decide (1 ≤ id ∧ id ≤ wordLimit ∧ 1 ≤ gobMass ∧ gobMass ≤ 20000 ∧ 1 ≤ gobsPerCut ∧ gobsPerCut ≤ 4 ∧
    1 ≤ articleMass ∧ articleMass ≤ 20000)

/-- R92, R93. The reply carries the line's state after the request (R91). -/
def reqJobStart (line id gobMass gobsPerCut articleMass : Nat) (s : State) : Taken :=
  lineRequest line (jobInRange id gobMass gobsPerCut articleMass) (fun _ => true) s fun l r st =>
    if (r.current).any (fun j => j.id == id) then refuse s .duplicate
    else
      let j := newJob id gobMass gobsPerCut articleMass
      match st with
      | .producing | .jobChange => accept (s.setLine l (applyJob j r)) (octets 1 LineState.jobChange.code)
      | _ =>
        ⟨s.setLine l { r with latched := some j }, if r.latched.isSome then .replaced else .ok, octets 1 st.code⟩

/-- R94. -/
def reqJobReady (line : Nat) (s : State) : Taken :=
  lineRequest line true (· == .jobChange) s fun l r _ =>
    accept (s.setLine l { r with state := some .producing }) (octets 1 LineState.producing.code)

/-! ## Tallies (R95 to R99) -/

/-- A count of a tally against its base: the increment, and whether the count restarted (R96). -/
def increment (base count : Nat) : Nat × Bool := if base ≤ count then (count - base, false) else (0, true)

/-- What a tally books: pulled, change and packed mass, and the cuts absorbed (R97). -/
structure TallyMasses where
  pulled   : Nat
  change   : Nat
  packed   : Nat
  absorbed : Nat
deriving DecidableEq, Repr

/-- The state whose rules a tally of the current job is booked by: HOLD_PENDING books as its resume state (R97). -/
def bookingState (r : LineRecord) (st : LineState) : LineState :=
  match st, r.resume with
  | .holdPending, .producing => .producing
  | .holdPending, .jobChange => .jobChange
  | st, _ => st

/-- The table of R97, for the increments of a current-job tally. COLD takes no tally (R95). -/
def tallyMasses (st : LineState) (j : Job) (cuts packed : Nat) : TallyMasses :=
  let g := cuts * j.gobsPerCut * j.gobMass
  let a := packed * j.articleMass
  match st with
  | .producing => ⟨g, 0, a, 0⟩
  | .jobChange => ⟨g, g, 0, 0⟩
  | .hold => ⟨0, 0, a, cuts⟩
  | _ => ⟨0, 0, 0, 0⟩

/-- A tally's bookings to its line and the draw it asks for, in one step (R97, R99). -/
def bookTally (l : Line) (m : TallyMasses) (s : State) : State :=
  let s := ((s.book (.line l .pulled) m.pulled).book (.line l .change) m.change).book (.line l .packed) m.packed
  let s := if 0 < m.pulled then draw s.config.lines[l].feeding m.pulled s else s
  if 0 < m.absorbed then raise .holdCuts (some l.val) s else s

/-- The reply fields of a taken tally (R95). A pulled mass and a change mass can pass 2^48 - 1 and take 8 octets (R178; log
entry 9). -/
def tallyReply (job : Nat) (cutsRestarted packedRestarted : Bool) (m : TallyMasses) (st : LineState) : List Octet :=
  octets 1 job ++ flagSet cutsRestarted ++ flagSet packedRestarted ++ octets 8 m.pulled ++ octets 6 m.packed ++
    octets 8 m.change ++ octets 4 m.absorbed ++ octets 1 st.code

/-- A tally of the current job (R96, R97). In HOLD_PENDING it is the bounding tally, and the line enters HOLD (R101). -/
def tallyCurrent (l : Line) (r : LineRecord) (st : LineState) (j : Job) (cuts packed : Nat) (s : State) : Taken :=
  let dc := increment j.cutsBase cuts
  let dp := increment j.packedBase packed
  let m := tallyMasses (bookingState r st) j dc.1 dp.1
  let r' := { r with current := some { j with cutsBase := cuts, packedBase := packed } }
  if st = .holdPending then
    let s := bookTally l m (s.setLine l { r' with state := some .hold, holdDue := none })
    accept (raise .lineHeld (some l.val) s) (tallyReply 0 dc.2 dp.2 m .hold)
  else accept (bookTally l m (s.setLine l r')) (tallyReply 0 dc.2 dp.2 m st)

/-- A tally of the previous job: a late pack, whose packed count alone is used (R98). -/
def tallyPrevious (l : Line) (r : LineRecord) (st : LineState) (j : Job) (packed : Nat) (s : State) : Taken :=
  let dp := increment j.packedBase packed
  let m : TallyMasses := ⟨0, 0, dp.1 * j.articleMass, 0⟩
  accept (bookTally l m (s.setLine l { r with previous := some { j with packedBase := packed } }))
    (tallyReply 1 false dp.2 m st)

/-- R95. The first failing check gives the reply. -/
def reqTallyPost (line id cuts packed : Nat) (s : State) : Taken :=
  lineRequest line (decide (1 ≤ id ∧ id ≤ wordLimit ∧ cuts ≤ wordLimit ∧ packed ≤ wordLimit)) (fun _ => true) s
    fun l r st =>
      if st = .cold then refuse s .lineCold
      else
        match r.current.filter (fun j => j.id == id), r.previous.filter (fun j => j.id == id) with
        | some j, _ => tallyCurrent l r st j cuts packed s
        | none, some j => tallyPrevious l r st j packed s
        | none, none => refuse s .jobUnknown

/-! ## The hold handshake (R100, R102) -/

/-- R100: the handshake starts with the tally timeout committed now. The reply is PENDING. -/
def reqLineHold (line : Nat) (s : State) : Taken :=
  lineRequest line true (fun st => st == .producing || st == .jobChange) s fun l r st =>
    ⟨s.setLine l
        { r with state := some .holdPending,
                 resume := if st = .producing then .producing else .jobChange,
                 holdDue := some (s.clock + seconds s.config.plant.tallyTimeout) },
      .pending, octets 1 LineState.holdPending.code⟩

/-- HOLD_TIMER_EXPIRY (R102): at the timer's time, HOLD without a bounding tally, with HOLD_FORCED and LINE_HELD. -/
def execHoldTimerExpiry (l : Line) (s : State) : Host.Outcome State Fault Refusal :=
  .next (
    let r := s.lines[l]
    if r.state = some .holdPending ∧ reached s r.holdDue then
      let s := s.setLine l { r with state := some .hold, holdDue := none }
      raise .lineHeld (some l.val) (raise .holdForced (some l.val) s)
    else s)

/-! ## Resuming, shutting down and warming (R104, R105) -/

def LineState.ofResume : ResumeState → LineState | .producing => .producing | .jobChange => .jobChange

/-- R104. The reply carries the new state and the current job's id. -/
def reqLineResume (line : Nat) (s : State) : Taken :=
  lineRequest line true (· == .hold) s fun l r _ =>
    let f := s.config.lines[l].feeding
    let fst := if s.config.furnaces[f].enabled then s.furnaces[f].state else none
    if fst ≠ some .melting then refuse s .furnaceNotMelting (octets 1 f.val ++ furnaceStateCode fst)
    else
      match r.latched, r.current with
      | some j, _ =>
        accept (s.setLine l { applyJob j r with latched := none })
          (octets 1 LineState.jobChange.code ++ octets 4 j.id)
      | none, some j =>
        let st := LineState.ofResume r.resume
        accept (s.setLine l { r with state := some st }) (octets 1 st.code ++ octets 4 j.id)
      | none, none => refuse s .noJob

/-- R105. -/
def reqLineShutdown (line : Nat) (s : State) : Taken :=
  lineRequest line true (· == .hold) s fun l r _ =>
    accept (s.setLine l { r with state := some .cold }) (octets 1 LineState.cold.code)

/-- R105. -/
def reqLineWarm (line : Nat) (s : State) : Taken :=
  lineRequest line true (· == .cold) s fun l r _ =>
    accept (s.setLine l { r with state := some .hold }) (octets 1 LineState.hold.code)

/-! ## Enabling and disabling (R88, R106) -/

/-- A line record as its configuration starts it: HOLD with no jobs if enabled, else with state absent. -/
def startLine (g : LineConfig) : LineRecord :=
  { state := if g.enabled then some .hold else none, current := none, previous := none, latched := none,
    resume := .producing, holdDue := none }

/-- R106: enabling and disabling both leave a fresh record; a new feeding furnace changes nothing of it. -/
def adoptLine (l : Line) (old new : LineConfig) (s : State) : State :=
  if old.enabled = new.enabled then s else s.setLine l (startLine new)

/-! ## STATE_READ (R108, R109) -/

/-- A job's description (R108). -/
def Job.description (j : Job) : List Octet :=
  octets 4 j.id ++ octets 6 j.gobMass ++ octets 1 j.gobsPerCut ++ octets 6 j.articleMass

/-- The six fields of a current or previous job (R108). -/
def Job.octets (j : Job) : List Octet := j.description ++ Machine.octets 4 j.cutsBase ++ Machine.octets 4 j.packedBase

/-- A consumer's entry in STATE_READ(ALL): its class is absent where it is not enabled (R109). -/
def stateEntry (s : State) (c : Consumer) : List Octet :=
  let on := enabled s.config c
  octets 1 c.index ++ yesNo on ++
    (match c with
      | .furnace f => furnaceStateCode (if on then s.furnaces[f].state else none)
      | .line l => lineStateCode (if on then s.lines[l].state else none)
      | .common => []) ++
    optional (fun k => octets 1 (BookingClass.code k)) (if on then some (classOf s c) else none) ++
    (match c with
      | .line l => octets 1 s.config.lines[l].feeding.val ++ optional (fun j => octets 4 (Job.id j)) s.lines[l].current
      | _ => [])

/-- R108, R109: a line 0 to 11, or 255 for ALL. -/
def reqStateRead (line : Nat) (s : State) : Taken :=
  if line = 255 then
    accept s ((List.finRange 4).flatMap (fun f => stateEntry s (.furnace f)) ++
      (List.finRange 12).flatMap (fun l => stateEntry s (.line l)))
  else if h : line < 12 then
    let l : Line := ⟨line, h⟩
    let r := s.lines[l]
    let f := s.config.lines[l].feeding
    accept s (octets 1 line ++ yesNo s.config.lines[l].enabled ++ lineStateCode r.state ++ octets 1 r.resume.code ++
      optional (fun due => octets 2 (secondsLeft s.clock due)) r.holdDue ++ octets 1 f.val ++
      furnaceStateCode s.furnaces[f].state ++ optional Job.octets r.current ++ optional Job.octets r.previous ++
      optional Job.description r.latched)
  else refuse s .range

def execJobStart (p : Port) (tag : Octet) (line jobId gobMass gobsPerCut articleMass : Nat) (s : State) :
    Host.Outcome State Fault Refusal :=
  .next (serve p tag (.jobStart line jobId gobMass gobsPerCut articleMass)
    (reqJobStart line jobId gobMass gobsPerCut articleMass) s)

def execJobReady (p : Port) (tag : Octet) (line : Nat) (s : State) : Host.Outcome State Fault Refusal :=
  .next (serve p tag (.jobReady line) (reqJobReady line) s)

def execTallyPost (p : Port) (tag : Octet) (line jobId cuts packed : Nat) (s : State) :
    Host.Outcome State Fault Refusal :=
  .next (serve p tag (.tallyPost line jobId cuts packed) (reqTallyPost line jobId cuts packed) s)

def execLineHold (p : Port) (tag : Octet) (line : Nat) (s : State) : Host.Outcome State Fault Refusal :=
  .next (serve p tag (.lineHold line) (reqLineHold line) s)

def execLineResume (p : Port) (tag : Octet) (line : Nat) (s : State) : Host.Outcome State Fault Refusal :=
  .next (serve p tag (.lineResume line) (reqLineResume line) s)

def execLineShutdown (p : Port) (tag : Octet) (line : Nat) (s : State) : Host.Outcome State Fault Refusal :=
  .next (serve p tag (.lineShutdown line) (reqLineShutdown line) s)

def execLineWarm (p : Port) (tag : Octet) (line : Nat) (s : State) : Host.Outcome State Fault Refusal :=
  .next (serve p tag (.lineWarm line) (reqLineWarm line) s)

def execStateRead (p : Port) (tag : Octet) (line : Nat) (s : State) : Host.Outcome State Fault Refusal :=
  .next (serve p tag (.stateRead line) (reqStateRead line) s)

end Sys2Proof.Machine
end

