-- ==== Sys2Proof/Machine/Intervals.lean ====
section
/-! DEFINITION. The interval engine: plant time, boundaries, the start of a close, the snapshot, and the figures and the
record that a close forms (chapter 6). -/

namespace Sys2Proof.Machine

/-! ## Boundaries and lengths (R112, R113) -/

/-- The open interval end for a length in minutes and a start: the smallest multiple of S = 60 times the length that is
greater than the start, absent where that multiple passes 2^32 - 1 (R112). -/
def openEnd (length start : Nat) : Option Nat :=
  let n := (start / (length * 60) + 1) * (length * 60)
  if n ≤ wordLimit then some n else none

/-- R113: what an adoption of the PLANT region does to the interval engine. -/
def adoptLength (old new : Nat) (iv : IntervalRecord) : IntervalRecord :=
  if old = new then iv
  else { iv with pendingLength := if new = iv.length then none else some new }

/-! ## The start of a close (R114, R115) -/

/-- A furnace's part of the snapshot. -/
def furnaceSnapshot (s : State) (f : Furnace) : FurnaceSnapshot :=
  let g := s.config.furnaces[f]
  { enabled := g.enabled, state := if g.enabled then s.furnaces[f].state else none, minimumMass := g.minimumMass,
    bandLow := g.bandLow, bandHigh := g.bandHigh, referenceCullet := g.referenceCullet, sensitivity := g.sensitivity }

/-- A line's part of the snapshot. -/
def lineSnapshot (s : State) (l : Line) : LineSnapshot :=
  let g := s.config.lines[l]
  { enabled := g.enabled, state := if g.enabled then s.lines[l].state else none, minimumMass := g.minimumMass,
    bandLow := g.bandLow, bandHigh := g.bandHigh, feeding := g.feeding }

/-- The entry list that the snapshot holds for a channel: the committed list where the committed mode is DRIVER. -/
def listSnapshot (s : State) (c : Chan) : Option (List Entry) :=
  let g := s.config.channels[c]
  if g.mode = .driver then some g.entries else none

/-- The snapshot of a close, from the committed values and the states at its start step (R115). -/
def takeSnapshot (s : State) : Snapshot :=
  { furnaces := Vector.ofFn (furnaceSnapshot s), lines := Vector.ofFn (lineSnapshot s),
    lists := Vector.ofFn (listSnapshot s) }

/-- Every open pool becomes the closing pool, and the open pool is 0 (R53). -/
def swapPools (pools : Vector Pool 32) : Vector Pool 32 :=
  Vector.ofFn fun c : Chan => { opened := 0, closing := pools[c].opened }

/-- R114: the start step of a close whose closing interval ends at `endTime` and whose new open interval starts at
`newStart`. -/
def beginClose (endTime newStart : Nat) (short : Bool) (s : State) : State :=
  let iv := s.interval
  let length := iv.pendingLength.getD iv.length
  { s with
    closingBank := s.openBank, openBank := .zero, pools := swapPools s.pools,
    interval :=
      { iv with
        length := length, pendingLength := none, number := iv.number + 1, startTime := newStart,
        endTime := openEnd length newStart, cleared := false, first := false,
        closing := some { number := iv.number, startTime := iv.startTime, endTime := endTime, short := short,
                          cleared := iv.cleared, first := iv.first, snapshot := takeSnapshot s } } }

/-- A close of kind EXPIRY begins: both ends stand at the open interval end (R114). -/
def beginExpiry (s : State) : State :=
  let e := s.interval.endTime.getD s.interval.plantTime
  beginClose e e false s

/-- A close of kind WRAP begins: the interval ends at 2^32 - 1 and the new one starts at 0 (R114). -/
def beginWrap (s : State) : State := beginClose wordLimit 0 true s

/-! ## Plant time (R111, R116, R121, R122) -/

/-- A second of the part's own clock has come: the next one is due a second later (log entry 2). -/
def passSecond (s : State) : State := { s.reach s.secondDue with secondDue := s.secondDue + 1000 }

def setPlantTime (t : Nat) (s : State) : State := s.setInterval { s.interval with plantTime := t }
def setWaiting (w : Waiting) (s : State) : State := s.setInterval { s.interval with waiting := w }

/-- R122: plant time passes 2^32 - 1. The close begins before plant time changes, or waits for the one in flight. -/
def wrapPlantTime (s : State) : State :=
  let s := if s.interval.closing.isSome then setWaiting .wrap s else beginWrap s
  restampChannels 0 (setPlantTime 0 s)

/-- PLANT_TIME_TICK (R111): in RUNNING a second of the own clock adds 1 to plant time; the second after 2^32 - 1 is the
wrap of R122 (log entry 20). In STARTING plant time stands at 0. -/
def execPlantTimeTick (s : State) : Host.Outcome State Fault Refusal :=
  .next (
    if s.phase = .running then
      let s := passSecond s
      if s.interval.plantTime < wordLimit then setPlantTime (s.interval.plantTime + 1) s else wrapPlantTime s
    else s)

/-- PLANT_TIME_WRAP (R122): the second that follows plant time 2^32 - 1. Before plant time has reached 2^32 - 1 there is
nothing to wrap. -/
def execPlantTimeWrap (s : State) : Host.Outcome State Fault Refusal :=
  .next (
    if s.phase = .running ∧ s.interval.plantTime = wordLimit then wrapPlantTime (passSecond s)
    else s)

/-- Whether the open interval has expired: plant time has reached its end (R116). -/
def intervalExpired (iv : IntervalRecord) : Bool :=
  match iv.endTime with
  | some e => decide (e ≤ iv.plantTime)
  | none => false

/-- INTERVAL_EXPIRY (R116). An open interval whose end plant time has not reached is left as it is. -/
def execIntervalExpiry (s : State) : Host.Outcome State Fault Refusal :=
  .next (
    if intervalExpired s.interval then
      if s.interval.closing.isSome then setWaiting .expiry s else beginExpiry s
    else s)

/-- R121. The value's range stands before the check for a close in flight (log entry 7). -/
def reqTimeSet (t : Nat) (s : State) : Taken :=
  if wordLimit < t then refuse s .range
  else if s.interval.closing.isSome then refuse s .busy
  else
    let s' := beginClose s.interval.plantTime t true s
    let s' := restampChannels t (s'.setInterval { s'.interval with plantTime := t, timeSet := true })
    accept s' (octets 4 s.interval.number ++ octets 4 (s.interval.number + 1))

def execTimeSet (p : Port) (tag : Octet) (t : Nat) (s : State) : Host.Outcome State Fault Refusal :=
  .next (serve p tag (.timeSet t) (reqTimeSet t) s)

/-! ## Figures (R125 to R129) -/

/-- A code above 999,999 is 999,999 and SATURATED; otherwise the figure is FORMED (R125). -/
def heldCode (code : Nat) : Figure :=
  if 999999 < code then { code := 999999, mark := .saturated } else { code := code, mark := .formed }

/-- R125: the figure of an energy in kilojoules and a mass in grams, against a minimum mass. -/
def figure (minimumMass energy mass : Nat) : Figure :=
  if mass < minimumMass then { code := 0, mark := .notFormed }
  else heldCode ((2 * energy * 10000 + mass) / (2 * mass))

/-- R127: the cullet permille of a pulled mass. -/
def culletPermille (cullet pulled : Nat) : Nat := if pulled = 0 then 0 else cullet * 1000 / pulled

/-- R128: the multiplier M = max(0, 100,000 + s (c - r)). -/
def normMultiplier (sensitivity referenceCullet permille : Nat) : Nat :=
  (100000 + (sensitivity : Int) * ((permille : Int) - referenceCullet)).toNat

/-- R128: SE_NORM from SE_FURNACE. -/
def normFigure (sensitivity referenceCullet permille : Nat) (se : Figure) : Figure :=
  match se.mark with
  | .notFormed => { code := 0, mark := .notFormed }
  | .saturated =>
    { heldCode ((2 * se.code * normMultiplier sensitivity referenceCullet permille + 100000) / 200000) with
      mark := .saturated }
  | .formed => heldCode ((2 * se.code * normMultiplier sensitivity referenceCullet permille + 100000) / 200000)

/-! ## Entries, melt shares and the record (R123, R124, R130 to R132) -/

/-- R123: whether a furnace has an entry. -/
def furnaceHasEntry (snap : Snapshot) (b : Bank) (f : Furnace) : Bool :=
  snap.furnaces[f].enabled || b.furnaces[f] != .zero

/-- R123: whether a line has an entry. -/
def lineHasEntry (snap : Snapshot) (b : Bank) (l : Line) : Bool := snap.lines[l].enabled || b.lines[l] != .zero

/-- The lines that share a furnace's melting energy: those enabled and fed by it in the snapshot, in order (R124). -/
def sharers (snap : Snapshot) (f : Furnace) : List Line :=
  (List.finRange 12).filter fun l => snap.lines[l].enabled && snap.lines[l].feeding == f

/-- R124: the melt shares of a furnace's lines, each line with its part; none where no line pulled. -/
def meltShares (snap : Snapshot) (b : Bank) (f : Furnace) : List (Line × Nat) :=
  let ls := sharers snap f
  let bases := ls.map fun l => b.lines[l].pulled
  if furnaceHasEntry snap b f && bases.any (0 < ·) then ls.zip (split b.furnaces[f].producing bases) else []

/-- R124: a line's melt share. -/
def meltShare (snap : Snapshot) (b : Bank) (l : Line) : Nat :=
  if snap.lines[l].enabled then ((meltShares snap b snap.lines[l].feeding).lookup l).getD 0 else 0

/-- R130: a figure that is not NOT_FORMED is out of band below the low or above the high. -/
def outOfBand (low high : Nat) (se : Figure) : Bool :=
  se.mark != .notFormed && (decide (se.code < low) || decide (high < se.code))

/-- A furnace's entry (R127, R128, R130, R132). -/
def furnaceEntry (snap : Snapshot) (b : Bank) (f : Furnace) : FurnaceEntry :=
  let k := snap.furnaces[f]
  let a := b.furnaces[f]
  let permille := culletPermille a.cullet a.pulled
  let se := figure k.minimumMass a.producing a.pulled
  let norm := normFigure k.sensitivity k.referenceCullet permille se
  { furnace := f, state := k.state, producing := a.producing, standby := a.standby, pulled := a.pulled,
    melted := a.melted, drained := a.drained, unbacked := a.unbacked, cullet := permille, seFurnace := se,
    seNorm := norm, outOfBand := k.enabled && outOfBand k.bandLow k.bandHigh norm }

/-- A line's entry (R129, R130, R132). -/
def lineEntry (snap : Snapshot) (b : Bank) (l : Line) : LineEntry :=
  let k := snap.lines[l]
  let a := b.lines[l]
  let share := meltShare snap b l
  let total := figure k.minimumMass (a.producing + share) a.pulled
  { line := l, state := k.state, producing := a.producing, standby := a.standby, pulled := a.pulled,
    packed := a.packed, change := a.change, meltShare := share, seOwn := figure k.minimumMass a.producing a.pulled,
    seTotal := total, sePacked := figure k.minimumMass (a.producing + share) a.packed,
    outOfBand := k.enabled && outOfBand k.bandLow k.bandHigh total }

/-- The record that a close writes, from its closing interval and its settled closing bank (R131). -/
def closeRecord (k : Closing) (b : Bank) : IntervalResult :=
  { number := k.number, startTime := k.startTime, endTime := k.endTime, short := k.short, cleared := k.cleared,
    first := k.first, saturated := b.saturated, metered := b.metered, common := b.common,
    furnaces := ((List.finRange 4).filter (furnaceHasEntry k.snapshot b)).map (furnaceEntry k.snapshot b),
    lines := ((List.finRange 12).filter (lineHasEntry k.snapshot b)).map (lineEntry k.snapshot b) }

/-- The consumers of a record that are out of band, in index order (R130). -/
def bandObjects (r : IntervalResult) : List Nat :=
  ((r.furnaces.filter (·.outOfBand)).map fun e => e.furnace.val) ++
    ((r.lines.filter (·.outOfBand)).map fun e => e.line.val + 4)

end Sys2Proof.Machine
end

