-- ==== Sys2Proof/Machine/Results.lean ====
section
/-! DEFINITION. The results ring, the read cursors, the campaign totals, the end of a close and CLEAR_COUNTS
(chapter 7). -/

namespace Sys2Proof.Machine

/-! ## The ring (R134, R135) -/

/-- The number the next record written will carry (R134). -/
def writeNumber (s : State) : Nat :=
  match s.interval.closing with
  | some k => k.number
  | none => s.interval.number

/-- The ring with a record written as its newest; at 48 records the oldest is removed (R135). -/
def pushRecord (r : IntervalResult) (ring : List IntervalResult) : List IntervalResult :=
  ring.drop (ring.length + 1 - ringLimit) ++ [r]

/-- A cursor at a write: one that designated a removed record moves to the new oldest one with GAP (R135). -/
def moveCursor (removed : List IntervalResult) (ring : List IntervalResult) (k : Cursor) : Cursor :=
  if removed.any (·.number == k.number) then
    match ring.head? with
    | some r => { number := r.number, gap := true }
    | none => k
  else k

/-- R135: a record is written to the ring, and the cursors of all four ports follow. -/
def writeRecord (r : IntervalResult) (s : State) : State :=
  let removed := s.ring.take (s.ring.length + 1 - ringLimit)
  let ring := pushRecord r s.ring
  { s with ring := ring, cursors := Vector.ofFn fun p : Port => moveCursor removed ring s.cursors[p] }

/-! ## Campaign totals (R141, R142) -/

def furnaceKeys : List FurnaceKey := [.producing, .standby, .melted, .pulled, .cullet, .unbacked, .drained]
def lineKeys : List LineKey := [.producing, .standby, .pulled, .packed, .change]

/-- The accumulators of a furnace's account with a bank's added, each held at 2^56 - 1. -/
def FurnaceSums.plus (a x : FurnaceSums) : FurnaceSums :=
  furnaceKeys.foldl (fun acc k => acc.put k (satAdd totalsLimit (a.get k) (x.get k))) a

/-- The accumulators of a line's account with a bank's added, each held at 2^56 - 1. -/
def LineSums.plus (a x : LineSums) : LineSums :=
  lineKeys.foldl (fun acc k => acc.put k (satAdd totalsLimit (a.get k) (x.get k))) a

/-- The four fields of an account at the end of a close (R142). -/
def Since.closed (a : Since) (short : Bool) : Since :=
  { a with added := if a.added < wordLimit then a.added + 1 else a.added, lowerBound := a.lowerBound || short }

def FurnaceAccount.close (a : FurnaceAccount) (x : FurnaceSums) (saturated : Bool) : FurnaceAccount :=
  { sums := a.sums.plus x,
    since := a.since.closed (saturated || furnaceKeys.any fun k => satOver totalsLimit (a.sums.get k) (x.get k)) }

def LineAccount.close (a : LineAccount) (x : LineSums) (share : Nat) (saturated : Bool) : LineAccount :=
  { sums := a.sums.plus x, meltShare := satAdd totalsLimit a.meltShare share,
    since := a.since.closed (saturated || satOver totalsLimit a.meltShare share ||
      lineKeys.any fun k => satOver totalsLimit (a.sums.get k) (x.get k)) }

def CommonAccount.close (a : CommonAccount) (x : Nat) (saturated : Bool) : CommonAccount :=
  { energy := satAdd totalsLimit a.energy x,
    since := a.since.closed (saturated || satOver totalsLimit a.energy x) }

/-- A line's melt share in a record, or 0 if the line has no entry (R142). -/
def recordShare (r : IntervalResult) (l : Line) : Nat :=
  ((r.lines.find? fun e => e.line == l).map LineEntry.meltShare).getD 0

/-- R142: every account receives the closing bank's accumulators of the same names, and each line account the melt
share of its entry. -/
def addTotals (r : IntervalResult) (b : Bank) (t : Totals) : Totals :=
  { furnaces := Vector.ofFn fun f : Furnace => t.furnaces[f].close b.furnaces[f] b.saturated,
    lines := Vector.ofFn fun l : Line => t.lines[l].close b.lines[l] (recordShare r l) b.saturated,
    common := t.common.close b.common b.saturated }

/-! ## The end of a close (R119, R120) -/

/-- A close that was waiting begins in the step that ends the one in flight (R116, R120, R122). -/
def beginWaiting (w : Waiting) (s : State) : State :=
  match w with
  | .none => s
  | .expiry => beginExpiry s
  | .wrap => beginWrap s

/-- The end of a close in flight: the closing pools still unsettled are settled, the record is built and written, the
closing bank goes to the totals and is emptied, and the alerts are raised (R119, R120; log entry 22). -/
def endClose (k : Closing) (s : State) : State :=
  let s := forEach (List.finRange 32) (settleClosingPool k.snapshot) s
  let r := closeRecord k s.closingBank
  let s := (writeRecord r s).setTotals (addTotals r s.closingBank s.totals)
  let s := raise .intervalClosed none (s.setClosingBank .zero)
  let s := forEach (bandObjects r) (fun n => raise .seBand (some n)) s
  beginWaiting s.interval.waiting (s.setInterval { s.interval with closing := none, waiting := .none })

/-- CLOSE_END (R120). With no close in flight nothing ends. -/
def execCloseEnd (s : State) : Host.Outcome State Fault Refusal :=
  .next (match s.interval.closing with
    | none => s
    | some k => endClose k s)

/-! ## The record as a master reads it (R140) -/

def furnaceSwapCode (st : Option FurnaceState) : Nat := (st.map fun x => x.code + 1).getD 0
def lineSwapCode (st : Option LineState) : Nat := (st.map fun x => x.code + 1).getD 0
def Figure.octets (g : Figure) : List Octet := Machine.octets 3 g.code ++ Machine.octets 1 g.mark.code

/-- A furnace entry, 49 octets (R140). -/
def FurnaceEntry.octets (e : FurnaceEntry) : List Octet :=
  Machine.octets 1 e.furnace.val ++ Machine.octets 1 (furnaceSwapCode e.state) ++ Machine.octets 6 e.producing ++
    Machine.octets 6 e.standby ++ Machine.octets 6 e.pulled ++ Machine.octets 6 e.melted ++
    Machine.octets 6 e.drained ++ Machine.octets 6 e.unbacked ++ Machine.octets 2 e.cullet ++ e.seFurnace.octets ++
    e.seNorm.octets ++ flagSet e.outOfBand

/-- A line entry, 51 octets (R140). -/
def LineEntry.octets (e : LineEntry) : List Octet :=
  Machine.octets 1 (e.line.val + 4) ++ Machine.octets 1 (lineSwapCode e.state) ++ Machine.octets 6 e.producing ++
    Machine.octets 6 e.standby ++ Machine.octets 6 e.pulled ++ Machine.octets 6 e.packed ++
    Machine.octets 6 e.change ++ Machine.octets 6 e.meltShare ++ e.seOwn.octets ++ e.seTotal.octets ++
    e.sePacked.octets ++ flagSet e.outOfBand

/-- The flags octet of a record's header (R140). -/
def IntervalResult.flags (r : IntervalResult) : Nat :=
  (if r.short then 1 else 0) + (if r.cleared then 2 else 0) + (if r.first then 4 else 0) +
    (if r.saturated then 8 else 0)

/-- A record in the layout of R140. -/
def IntervalResult.octets (r : IntervalResult) : List Octet :=
  Machine.octets 4 r.number ++ Machine.octets 4 r.startTime ++ Machine.octets 4 r.endTime ++
    Machine.octets 1 r.flags ++ Machine.octets 6 r.metered ++ Machine.octets 6 r.common ++
    Machine.octets 1 (r.furnaces.length + r.lines.length) ++ r.furnaces.flatMap FurnaceEntry.octets ++
    r.lines.flatMap LineEntry.octets

/-- The count of held records newer than a number (R137). -/
def newerCount (ring : List IntervalResult) (n : Nat) : Nat := ring.countP fun r => n < r.number

/-- The payload of a reply that carries a record: GAP, the count of newer records, the record (R140). -/
def recordPayload (gap : Bool) (ring : List IntervalResult) (r : IntervalResult) : List Octet :=
  flagSet gap ++ octets 1 (newerCount ring r.number) ++ r.octets

/-- The held record of a number. -/
def heldRecord (s : State) (n : Nat) : Option IntervalResult := s.ring.find? fun r => r.number == n

/-! ## Reading (R137 to R139) -/

/-- R137. -/
def reqIntervalRead (p : Port) (s : State) : Taken :=
  let k := s.cursors[p]
  match heldRecord s k.number with
  | some r => accept (s.setCursor p { number := k.number + 1, gap := false }) (recordPayload k.gap s.ring r)
  | none => refuse s .noRecord (octets 4 (writeNumber s) ++ yesNo s.interval.closing.isSome)

/-- R139. -/
def reqIntervalReadAt (n : Nat) (s : State) : Taken :=
  if n = 0 ∨ wordLimit < n then refuse s .range
  else
    match heldRecord s n with
    | some r => accept s (recordPayload false s.ring r)
    | none =>
      refuse s .notHeld (optional (fun r => octets 4 (IntervalResult.number r)) s.ring.head? ++
        optional (fun r => octets 4 (IntervalResult.number r)) s.ring.getLast? ++ octets 4 (writeNumber s))

/-- Where CURSOR_SET puts a cursor: OLDEST, NEWEST or WRITE, the write position where the ring is empty (R138). -/
def cursorPlace (place : Nat) (s : State) : Nat :=
  match place with
  | 0 => (s.ring.head?.map IntervalResult.number).getD (writeNumber s)
  | 1 => (s.ring.getLast?.map IntervalResult.number).getD (writeNumber s)
  | _ => writeNumber s

/-- R138. -/
def reqCursorSet (p : Port) (place : Nat) (s : State) : Taken :=
  if 2 < place then refuse s .range
  else
    let n := cursorPlace place s
    accept (s.setCursor p { number := n, gap := false }) (octets 4 n ++ yesNo (n == writeNumber s))

/-! ## Totals requests (R143, R144) -/

def Since.octets (a : Since) : List Octet :=
  Machine.octets 4 a.interval ++ Machine.octets 4 a.time ++ Machine.octets 4 a.added ++ flagSet a.lowerBound

/-- R143: accumulators, the four fields, and the figures formed with the committed values. -/
def reqTotalsRead (consumer : Nat) (s : State) : Taken :=
  match consumerOf consumer with
  | none => refuse s .range
  | some .common => accept s (octets 8 s.totals.common.energy ++ s.totals.common.since.octets)
  | some (.furnace f) =>
    let a := s.totals.furnaces[f]
    let g := s.config.furnaces[f]
    let permille := culletPermille a.sums.cullet a.sums.pulled
    let se := figure g.minimumMass a.sums.producing a.sums.pulled
    accept s (octets 8 a.sums.producing ++ octets 8 a.sums.standby ++ octets 8 a.sums.melted ++
      octets 8 a.sums.pulled ++ octets 8 a.sums.cullet ++ octets 8 a.sums.unbacked ++ octets 8 a.sums.drained ++
      a.since.octets ++ octets 2 permille ++ se.octets ++
      (normFigure g.sensitivity g.referenceCullet permille se).octets)
  | some (.line l) =>
    let a := s.totals.lines[l]
    let g := s.config.lines[l]
    accept s (octets 8 a.sums.producing ++ octets 8 a.sums.standby ++ octets 8 a.meltShare ++
      octets 8 a.sums.pulled ++ octets 8 a.sums.packed ++ octets 8 a.sums.change ++ a.since.octets ++
      (figure g.minimumMass a.sums.producing a.sums.pulled).octets ++
      (figure g.minimumMass (a.sums.producing + a.meltShare) a.sums.pulled).octets ++
      (figure g.minimumMass (a.sums.producing + a.meltShare) a.sums.packed).octets)

/-- The four fields of an account zeroed now (R141, R144). -/
def sinceNow (s : State) : Since :=
  { interval := writeNumber s, time := s.interval.plantTime, added := 0, lowerBound := false }

/-- The campaign totals with one account zeroed (R144). -/
def resetAccount (since : Since) (c : Consumer) (t : Totals) : Totals :=
  match c with
  | .furnace f => { t with furnaces := t.furnaces.set f { sums := .zero, since := since } }
  | .line l => { t with lines := t.lines.set l { sums := .zero, meltShare := 0, since := since } }
  | .common => { t with common := { energy := 0, since := since } }

/-- R144. -/
def reqCampaignReset (consumer : Nat) (s : State) : Taken :=
  match consumerOf consumer with
  | none => refuse s .range
  | some c => accept (s.setTotals (resetAccount (sinceNow s) c s.totals)) (octets 4 (writeNumber s))

/-! ## CLEAR_COUNTS (R20, R58, R145) -/

/-- R145: every effect of a CLEAR_COUNTS that is taken. -/
def clearCounts (s : State) : State :=
  let n := s.interval.number
  let uncarried (r : ChannelRecord) : ChannelRecord := { r with carry := 0 }
  let drained (q : Pool) : Pool := { q with opened := 0 }
  { s with
    openBank := .zero,
    pools := Vector.ofFn fun c : Chan => drained s.pools[c],
    channels := Vector.ofFn fun c : Chan => uncarried s.channels[c],
    totals := Totals.zeroed n s.interval.plantTime,
    ring := [],
    cursors := Vector.replicate 4 { number := n, gap := false },
    interval := { s.interval with cleared := true } }

/-- R145. -/
def reqClearCounts (s : State) : Taken :=
  if s.interval.closing.isSome then refuse s .busy
  else accept (clearCounts s) (octets 4 s.interval.number)

def execIntervalRead (p : Port) (tag : Octet) (s : State) : Host.Outcome State Fault Refusal :=
  .next (serve p tag .intervalRead (reqIntervalRead p) s)

def execIntervalReadAt (p : Port) (tag : Octet) (n : Nat) (s : State) : Host.Outcome State Fault Refusal :=
  .next (serve p tag (.intervalReadAt n) (reqIntervalReadAt n) s)

def execCursorSet (p : Port) (tag : Octet) (place : Nat) (s : State) : Host.Outcome State Fault Refusal :=
  .next (serve p tag (.cursorSet place) (reqCursorSet p place) s)

def execTotalsRead (p : Port) (tag : Octet) (consumer : Nat) (s : State) : Host.Outcome State Fault Refusal :=
  .next (serve p tag (.totalsRead consumer) (reqTotalsRead consumer) s)

def execCampaignReset (p : Port) (tag : Octet) (consumer : Nat) (s : State) : Host.Outcome State Fault Refusal :=
  .next (serve p tag (.campaignReset consumer) (reqCampaignReset consumer) s)

def execClearCounts (p : Port) (tag : Octet) (s : State) : Host.Outcome State Fault Refusal :=
  .next (serve p tag .clearCounts reqClearCounts s)

end Sys2Proof.Machine
end

