-- ==== Sys2Proof/Machine/Locks.lean ====
section
/-! DEFINITION. Region locks, staging copies, validation and adoption (chapter 9), and PROVE_APPLY (R155), which writes a
staging copy. -/

namespace Sys2Proof.Machine

/-! ## Rank order (R159) -/

/-- A port's place in the port rank: 0 is the highest. -/
def rankAt (rank : List Port) (p : Port) : Nat := rank.findIdx (· == p)

/-- A port joins a wait list after every waiting port of higher rank and before every one of lower rank (R159). -/
def insertByRank (rank : List Port) (p : Port) : List Port → List Port
  | [] => [p]
  | q :: qs => if rankAt rank p < rankAt rank q then p :: q :: qs else q :: insertByRank rank p qs

/-- A wait list put into a rank order, its members the same (R159). -/
def orderByRank (rank : List Port) (l : List Port) : List Port := l.foldr (insertByRank rank) []

/-- Every wait list of every region put into the committed rank order. -/
def reorderWaitLists (s : State) : State :=
  let reorder (k : LockRecord) : LockRecord := { k with waitList := orderByRank s.config.plant.rank k.waitList }
  { s with locks := Vector.ofFn fun r : RegionNo => reorder s.locks[r] }

/-! ## Taking, granting and leaving a lock (R158, R161, R168) -/

/-- A fresh hold of a region by a port: the staging copy is loaded with the committed values, and the last request time
is now (R158, R161). -/
def freshHold (r : RegionNo) (p : Port) (s : State) : Hold :=
  { port := p, staging := s.config.get (regionOf r), lastRequest := s.clock }

/-- A region left without a holder is granted to its first waiter, or left free (R161). -/
def grantNext (r : RegionNo) (s : State) : State :=
  match s.locks[r].waitList with
  | [] => s.setLock r { hold := none, waitList := [] }
  | q :: rest =>
    raiseTo q .lockGranted (some r.val)
      ((s.setLock r { hold := some (freshHold r q s), waitList := rest }).setPortLock q
        { held := some r, waited := none })

/-- A port's hold of a region ends: the staging copy is discarded, the port holds nothing, and the region passes on
(R161, R164, R167, R168). -/
def endHold (r : RegionNo) (p : Port) (s : State) : State :=
  grantNext r (s.setPortLock p { s.portLocks[p] with held := none })

/-- A port's wait on a region is withdrawn; the other waiters keep their order (R160, R168). -/
def endWait (r : RegionNo) (p : Port) (s : State) : State :=
  let k := s.locks[r]
  (s.setLock r { k with waitList := k.waitList.filter (· != p) }).setPortLock p
    { s.portLocks[p] with waited := none }

/-- The time at which a held region's lock expires (R167). -/
def lockDue (s : State) (r : RegionNo) : Option Nat :=
  (s.locks[r].hold).map fun h => h.lastRequest + seconds s.config.plant.lockTimeout

/-- The lock of a held region expires (R167). -/
def expireLock (r : RegionNo) (s : State) : State :=
  match s.locks[r].hold with
  | none => s
  | some h => endHold r h.port (raiseTo h.port .lockExpired (some r.val) s)

/-- The lock of a region expires if its holder has been silent for the lock timeout or longer (R167). -/
def expireIfSilent (r : RegionNo) (s : State) : State := if reached s (lockDue s r) then expireLock r s else s

/-- LOCK_EXPIRY (R167). A region without a holder has no lock to expire, and a request of the holder that was taken before
has moved the time at which it does. -/
def execLockExpiry (r : RegionNo) (s : State) : Host.Outcome State Fault Refusal := .next (expireIfSilent r s)

/-- Every held region whose holder has been silent for the lock timeout or longer expires (R167). -/
def expireSilent (s : State) : State := forEach (List.finRange 53) expireIfSilent s

/-- What a break does to the lock table (R168). -/
def dropLocks (p : Port) (s : State) : State :=
  let s := match s.portLocks[p].held with
    | some r => endHold r p s
    | none => s
  match s.portLocks[p].waited with
  | some r => endWait r p s
  | none => s

/-- A request of the holder that names the region sets its last request time (R162, R163, R169). -/
def touch (r : RegionNo) (h : Hold) (s : State) : State :=
  s.setLock r { s.locks[r] with hold := some { h with lastRequest := s.clock } }

/-- The holder's staging copy replaced, and its last request time set. -/
def stage (r : RegionNo) (h : Hold) (v : RegionValue) (s : State) : State := touch r { h with staging := v } s

/-! ## LOCK and LOCK_CANCEL -/

def portCode (p : Port) : List Octet := octets 1 p.val
def regionCode (r : RegionNo) : List Octet := octets 1 r.val

/-- R158. WAIT is 0 and NOWAIT 1. -/
def reqLock (p : Port) (region mode : Nat) (s : State) : Taken :=
  if hr : region < 53 then
    if 1 < mode then refuse s .range
    else
      let r : RegionNo := ⟨region, hr⟩
      match s.portLocks[p].held, s.portLocks[p].waited with
      | some q, _ => refuse s .holding (regionCode q)
      | none, some q => refuse s .waiting (regionCode q)
      | none, none =>
        let k := s.locks[r]
        match k.hold with
        | none =>
          accept ((s.setLock r { k with hold := some (freshHold r p s) }).setPortLock p
            { held := some r, waited := none })
        | some h =>
          if mode = 1 then refuse s .locked (portCode h.port ++ octets 1 k.waitList.length)
          else
            let l := insertByRank s.config.plant.rank p k.waitList
            ⟨(s.setLock r { k with waitList := l }).setPortLock p { held := none, waited := some r }, .queued,
              portCode h.port ++ octets 1 (l.findIdx (· == p) + 1)⟩
  else refuse s .range

/-- R160. -/
def reqLockCancel (p : Port) (s : State) : Taken :=
  match s.portLocks[p].waited with
  | some r => accept (endWait r p s) (regionCode r)
  | none => refuse s .wrongState (optional regionCode s.portLocks[p].held)

/-! ## STAGE_WRITE and CONFIG_READ (R162, R163) -/

/-- A NOT_HOLDER reply: the holder, or absent. -/
def notHolder (r : RegionNo) (s : State) : Taken :=
  refuse s .notHolder (optional (fun h => portCode (Hold.port h)) s.locks[r].hold)

/-- A region's hold, if the port is its holder. -/
def holdOf (p : Port) (r : RegionNo) (s : State) : Option Hold := s.locks[r].hold.filter (·.port == p)

/-- R162, after the step of R176 that refuses a region or field number outside its table, or a count octet over its
range, before every other check. -/
def reqStageWrite (p : Port) (region field : Nat) (value : StageValue) (s : State) : Taken :=
  if hr : region < 53 then
    let r : RegionNo := ⟨region, hr⟩
    match fieldForm (regionOf r).kind field with
    | none => refuse s .range
    | some form =>
      if countOver value then refuse s .range
      else
        match holdOf p r s with
        | none => notHolder r s
        | some h =>
          if inForm form value then
            accept (stage r h (h.staging.withField field value) s) (valueOctets form (h.staging.field field))
          else refuse (touch r h s) .range
  else refuse s .range

/-- The holder and the wait list that both CONFIG_READ replies carry (R163). -/
def lockCode (k : LockRecord) : List Octet :=
  optional (fun h => portCode (Hold.port h)) k.hold ++ listOf portCode k.waitList

/-- R163. COMMITTED is 0 and STAGED 1. -/
def reqConfigRead (p : Port) (region which : Nat) (s : State) : Taken :=
  if hr : region < 53 then
    if 1 < which then refuse s .range
    else
      let r : RegionNo := ⟨region, hr⟩
      let committed := s.config.get (regionOf r)
      match holdOf p r s with
      | some h =>
        accept (touch r h s) ((if which = 0 then committed else h.staging).code ++ lockCode s.locks[r])
      | none => if which = 0 then accept s (committed.code ++ lockCode s.locks[r]) else notHolder r s
  else refuse s .range

/-! ## Validation (R165) -/

/-- The reasons of R165, in its order. -/
inductive Reason where
  | valueRange | entryCount | entryDuplicate | consumerDisabled | shareSum | tagSource | setUnset | setInUse
  | lineNotCold | lineDrew | consumerReferenced | intervalLength | rankInvalid
deriving DecidableEq, Repr

/-- The number of a reason: its place in R165's list, from 0 (R178). -/
def Reason.code : Reason → Nat
  | .valueRange => 0 | .entryCount => 1 | .entryDuplicate => 2 | .consumerDisabled => 3 | .shareSum => 4
  | .tagSource => 5 | .setUnset => 6 | .setInUse => 7 | .lineNotCold => 8 | .lineDrew => 9
  | .consumerReferenced => 10 | .intervalLength => 11 | .rankInvalid => 12

/-- A failed check: its reason, and the numbers of the fields it concerns. -/
structure Failure where
  reason : Reason
  fields : List Nat
deriving DecidableEq, Repr

/-- A check of R165: the failure where it fails. -/
def failing (bad : Bool) (reason : Reason) (fields : List Nat) : Option Failure :=
  if bad then some ⟨reason, fields⟩ else none

/-- The field number a REJECTED reply carries. Where the check concerns several fields the handbook does not say which
one is named: a free value picks it (log entry 1). -/
def Failure.field (x : Failure) : Nat :=
  match x.fields with
  | [n] => n
  | l => l.getD (Config.concernedField x.reason.code % l.length) 0

/-- Whether an entry list names a consumer. -/
def names (l : List Entry) (c : Consumer) : Bool := l.any fun e => e.consumer == c

/-- Whether an entry list names a consumer more than once. -/
def repeats : List Entry → Bool
  | [] => false
  | e :: rest => names rest e.consumer || repeats rest

/-- R165, orders 1 to 7: a CHANNEL region against the rest of a configuration. -/
def channelFailure (g : Configuration) (v : ChannelConfig) : Option Failure :=
  failing (v.active && v.isTotal && decide (v.modulus ≤ 2 * v.rateCeiling)) .valueRange [5, 10] <|>
  failing v.entries.isEmpty .entryCount [14] <|>
  failing (repeats v.entries) .entryDuplicate [14] <|>
  failing (v.active && v.entries.any fun e => !enabled g e.consumer) .consumerDisabled [14] <|>
  failing (v.mode == .fixed && (v.entries.map Entry.weight).sum != 1000) .shareSum [14] <|>
  failing (v.mode == .tagged && v.source == .slot) .tagSource [2, 13] <|>
  failing (v.active && (g.carriers[v.carrier.index]).factor v.set == 0) .setUnset [0, 1, 11]

/-- Whether an active channel of a carrier selects a set. -/
def setSelected (g : Configuration) (k : Fin 4) (x : SetName) : Bool :=
  (List.finRange 32).any fun c => g.channels[c].active && g.channels[c].carrier.index == k && g.channels[c].set == x

/-- R165, order 8: a CARRIER region. -/
def carrierFailure (g : Configuration) (k : Fin 4) (v : CarrierConfig) : Option Failure :=
  let a := v.factorA == 0 && setSelected g k .a
  let b := v.factorB == 0 && setSelected g k .b
  failing (a || b) .setInUse ((if a then [0] else []) ++ if b then [2] else [])

/-- R165, orders 12 and 13: the PLANT region. -/
def plantFailure (v : PlantConfig) : Option Failure :=
  failing (!(decide (5 ≤ v.intervalLength) && 1440 % v.intervalLength == 0)) .intervalLength [0] <|>
  failing (!(v.rank.length == 4 && (List.finRange 4).all fun p => v.rank.contains p)) .rankInvalid [1]

/-- Whether an active channel's entry list names a consumer. -/
def consumerNamed (g : Configuration) (c : Consumer) : Bool :=
  (List.finRange 32).any fun n => g.channels[n].active && names g.channels[n].entries c

/-- R165, order 11, for a furnace: its only check. -/
def furnaceFailure (g : Configuration) (f : Furnace) (v : FurnaceConfig) : Option Failure :=
  let fed := (List.finRange 12).any fun l => g.lines[l].enabled && g.lines[l].feeding == f
  failing (g.furnaces[f].enabled && !v.enabled && (consumerNamed g (.furnace f) || fed)) .consumerReferenced [0]

/-- R165, orders 9 to 11: a line CONSUMER region, against the part's state as well. -/
def lineFailure (s : State) (l : Line) (v : LineConfig) : Option Failure :=
  let old := s.config.lines[l]
  let changed := (if old.enabled != v.enabled then [0] else []) ++ if old.feeding != v.feeding then [1] else []
  failing (old.enabled && s.lines[l].state != some .cold && !changed.isEmpty) .lineNotCold changed <|>
  failing (old.feeding != v.feeding && decide (0 < s.openBank.lines[l].pulled)) .lineDrew [1] <|>
  failing (old.enabled && !v.enabled && consumerNamed s.config (.line l)) .consumerReferenced [0]

/-- R165: the first check that a staging copy fails, against the committed values of every other region and the state of
the part. -/
def validate (s : State) (r : RegionNo) (v : RegionValue) : Option Failure :=
  match regionOf r, v with
  | .channel _, .channel v => channelFailure s.config v
  | .carrier k, .carrier v => carrierFailure s.config k v
  | .furnace f, .furnace v => furnaceFailure s.config f v
  | .line l, .line v => lineFailure s l v
  | .plant, .plant v => plantFailure v
  | _, _ => none

/-! ## Adoption (R55, R71, R106, R113, R159, R166) -/

/-- R55: whether an adoption of a CHANNEL region settles the channel's open pool. -/
def settlesPool (old new : ChannelConfig) : Bool :=
  old.mode == .driver && old.active &&
    (new.mode != old.mode || new.entries != old.entries || new.active != old.active)

/-- What follows from a region's new values, once they stand in the committed configuration (R166). The new lock timeout
is looked at when the release has passed the region on. -/
def adoptEffects (r : RegionNo) (old new : RegionValue) (s : State) : State :=
  match regionOf r, old, new with
  | .channel c, .channel o, .channel n => adoptChannel c o n s
  | .furnace f, .furnace o, .furnace n => adoptFurnace f o n s
  | .line l, .line o, .line n => adoptLine l o n s
  | .plant, .plant o, .plant n =>
    let s := s.setInterval (adoptLength o.intervalLength n.intervalLength s.interval)
    if o.rank = n.rank then s else reorderWaitLists s
  | _, _, _ => s

/-- A DRIVER pool settled with the old list before the new values take effect (R55). -/
def settleBeforeAdoption (r : RegionNo) (old new : RegionValue) (s : State) : State :=
  match regionOf r, old, new with
  | .channel c, .channel o, .channel n => if settlesPool o n then settleOpenPool c o.entries s else s
  | _, _, _ => s

/-- R166: a valid staging copy becomes the committed region, and every block sees the new values. -/
def adopt (r : RegionNo) (v : RegionValue) (s : State) : State :=
  let old := s.config.get (regionOf r)
  let s := settleBeforeAdoption r old v s
  adoptEffects r old v (s.setConfig (s.config.put (regionOf r) v))

/-! ## RELEASE (R164) -/

/-- After an adoption that changes the lock timeout, the regions silent for the new one expire (R167). That the
region released passes on first is DEDUCED, log entry 17. -/
def applyTimeout (old : Nat) (s : State) : State :=
  if s.config.plant.lockTimeout = old then s else expireSilent s

/-- R164. COMMIT is 0 and DISCARD 1; the outcomes are DISCARDED, 0, and ADOPTED, 1. -/
def reqRelease (p : Port) (action : Nat) (s : State) : Taken :=
  if 1 < action then refuse s .range
  else
    match s.portLocks[p].held with
    | none => refuse s .notHolder (octets 1 0)
    | some r =>
      if action = 1 then accept (endHold r p s) (octets 1 0)
      else
        match s.locks[r].hold with
        | none => accept (endHold r p s) (octets 1 0)
        | some h =>
          match validate s r h.staging with
          | some x => refuse (endHold r p s) .rejected (octets 1 x.reason.code ++ octets 1 x.field)
          | none =>
            accept (applyTimeout s.config.plant.lockTimeout (endHold r p (adopt r h.staging s))) (octets 1 1)

/-! ## PROVE_APPLY (R155) -/

/-- The correction formed from a deviation: D / 100 to the nearest whole number, an exact half away from zero (R155). -/
def correction (d : Int) : Int :=
  let m : Int := ((d.natAbs + 50) / 100 : Nat)
  if d < 0 then -m else m

def clampTrim (t : Int) : Int := max (-500) (min 500 t)

/-- The meter trim of a staging copy of a CHANNEL region. -/
def stagedTrim : RegionValue → Int
  | .channel v => v.trim
  | _ => 0

/-- R155. The reply's last field, whether the clamp applied, is a yes (0) or a no (1), as R155 asks whether. DEDUCED, log
entry 5. -/
def reqProveApply (p : Port) (channel : Nat) (s : State) : Taken :=
  if hc : channel < 32 then
    let c : Chan := ⟨channel, hc⟩
    let r := channelRegion c
    match holdOf p r s with
    | none => notHolder r s
    | some h =>
      let rec0 := s.channels[c].prove
      let apply (_ : Unit) : Taken :=
        if rec0.outcome = .passed then
          let before := stagedTrim h.staging
          let wanted := before - correction rec0.deviation
          let after := clampTrim wanted
          accept (stage r h (h.staging.withField 12 (.trim after)) s)
            (signedOctets 3 rec0.deviation ++ signedOctets 2 before ++ signedOctets 2 after ++
              yesNo (after != wanted))
        else refuse (touch r h s) .wrongState (octets 1 rec0.outcome.code)
      match s.prover.state with
      | .running c' port due _ =>
        if c' = c then proverBusy (touch r h s) c port due else apply ()
      | .idle => apply ()
  else refuse s .range

def execProveApply (p : Port) (tag : Octet) (channel : Nat) (s : State) : Host.Outcome State Fault Refusal :=
  .next (serve p tag (.proveApply channel) (reqProveApply p channel) s)

def execLock (p : Port) (tag : Octet) (region mode : Nat) (s : State) : Host.Outcome State Fault Refusal :=
  .next (serve p tag (.lock region mode) (reqLock p region mode) s)

def execLockCancel (p : Port) (tag : Octet) (s : State) : Host.Outcome State Fault Refusal :=
  .next (serve p tag .lockCancel (reqLockCancel p) s)

def execStageWrite (p : Port) (tag : Octet) (region field : Nat) (value : StageValue) (s : State) :
    Host.Outcome State Fault Refusal :=
  .next (serve p tag (.stageWrite region field value) (reqStageWrite p region field value) s)

def execConfigRead (p : Port) (tag : Octet) (region which : Nat) (s : State) : Host.Outcome State Fault Refusal :=
  .next (serve p tag (.configRead region which) (reqConfigRead p region which) s)

def execRelease (p : Port) (tag : Octet) (action : Nat) (s : State) : Host.Outcome State Fault Refusal :=
  .next (serve p tag (.release action) (reqRelease p action) s)

end Sys2Proof.Machine
end

