-- ==== Sys2Proof/Machine/Storage.lean ====
section
/-! DEFINITION. The stored image, hardware reset, start-up and saving (chapter 12). -/

namespace Sys2Proof.Machine

/-! ## The CRC-32 and the image's octets (R186) -/

/-- One octet shifted in, least significant bit first; the register is held with x^31 as its least significant bit. -/
def crc32Octet (r : BitVec 32) (o : Octet) : BitVec 32 :=
  (List.range 8).foldl
    (fun r i => if r.getLsbD 0 != o.getLsbD i then (r >>> 1) ^^^ 0xEDB88320#32 else r >>> 1) r

/-- The check of an image's octets: the register starts at all ones and is inverted at the end. -/
def crc32 (os : List Octet) : BitVec 32 := ~~~(os.foldl crc32Octet 0xFFFFFFFF#32)

/-- The regions of a configuration in region order. -/
def Configuration.regions (g : Configuration) : List RegionValue :=
  (List.finRange 53).map fun r => g.get (regionOf r)

/-- The octets of an image before its check, for a format number: the format number, the regions field by field, and
each furnace's opening inventory (R186). Their coding is that of frames: DESIGN CHOICE, log entry 8. R186 has the regions
hold every field of R156, and the saved inventories stand in place of the two opening fields: the furnace regions keep the
committed opening fields, under the check, the inventories follow the regions, and the load takes them in the fields'
place. DESIGN CHOICE, log entry 8. -/
def imageOctets (format : Nat) (b : ImageBody) : List Octet :=
  octets 1 format ++ b.config.regions.flatMap RegionValue.code ++
    (List.finRange 4).flatMap fun f : Furnace => octets 6 b.inventories[f].1 ++ octets 2 b.inventories[f].2

/-- The check that goes with an image's body: it covers the format number 1 that the finished image carries. -/
def imageCheck (b : ImageBody) : BitVec 32 := crc32 (imageOctets 1 b)

/-- The configuration that an image stands for: its regions, the opening inventory fields taking the saved values
(R186, R187). -/
def ImageBody.configuration (b : ImageBody) : Configuration :=
  let opened (f : Furnace) : FurnaceConfig :=
    { b.config.furnaces[f] with openingMass := b.inventories[f].1, openingCullet := b.inventories[f].2 }
  { b.config with furnaces := Vector.ofFn opened }

/-- Whether every region passes the checks of R165 that would apply if it were committed against the others: those that
look at the configuration alone (R186). -/
def configurationSound (g : Configuration) : Bool :=
  (List.finRange 32).all (fun c => (channelFailure g g.channels[c]).isNone) &&
    (List.finRange 4).all (fun k => (carrierFailure g k g.carriers[k]).isNone) && (plantFailure g.plant).isNone

/-- R186: whether the image is good, given whether every access made to read it was answered. -/
def Image.good (i : Image) (answered : Bool) : Bool :=
  answered && i.format == 1 && i.crc == imageCheck i.body && configurationSound i.body.configuration

/-! ## Reset and start-up (R187, R188) -/

/-- HARDWARE_RESET (R187). What stands outside the part stays: the slots' lines, the numbers of polls whose replies may
still come, the image in the serial memory, and the commands still to come. -/
def execHardwareReset (s : State) : Host.Outcome State Fault Refusal :=
  .next
    { State.reset with
      pending := s.pending,
      slots := Vector.ofFn fun sl : Slot => { SlotRecord.reset s.slots[sl].sense with polls := s.slots[sl].polls },
      image := s.image }

/-- A configuration adopted whole in STARTING (R110, R187). -/
def adoptWhole (g : Configuration) (s : State) : State :=
  let t := s.interval.plantTime
  let length := g.plant.intervalLength
  let s :=
    { s with
      config := g, furnaces := Vector.ofFn fun f : Furnace => startFurnace g.furnaces[f] t,
      lines := Vector.ofFn fun l : Line => startLine g.lines[l],
      interval := { s.interval with length := length, endTime := openEnd length s.interval.startTime } }
  forEach (List.finRange 32) (fun c s => if s.config.channels[c].active then activate c s else s) s

/-- CONFIG_LOAD_DONE (R187, R188): the image read ends and the part enters RUNNING. In RUNNING no image is being
read. -/
def execConfigLoadDone (answered : Bool) (s : State) : Host.Outcome State Fault Refusal :=
  .next (
    if s.phase = .starting then
      let s' :=
        if s.image.good answered then adoptWhole s.image.body.configuration s
        else raise .configLoadFail none { s with loadFailed := true }
      { s' with phase := .running, secondDue := s.clock + 1000 }
    else s)

/-! ## Saving (R85, R189, R190) -/

/-- The snapshot of a save (R189). -/
def saveSnapshot (s : State) : ImageBody := { config := s.config, inventories := Vector.ofFn (savedInventory s) }

/-- R189. -/
def reqSave (s : State) : Taken :=
  if s.save.isSome then refuse s .busy
  else accept { s with save := some { snapshot := saveSnapshot s, written := 0, accessDue := s.clock + 100 } }

/-- The writes of a save: the format number 0, the 53 regions, the four opening inventories, the check, and the format
number 1 (R189). Each is one access of the memory link: DESIGN CHOICE, log entry 8. -/
def saveWrites : Nat := 60

/-- What the write of a save with a given place does to the image, once acknowledged (R189; log entry 19). -/
def writeImage (snap : ImageBody) (n : Nat) (i : Image) : Image :=
  if n = 0 then { i with format := 0 }
  else if h : n - 1 < 53 then
    let r := regionOf ⟨n - 1, h⟩
    { i with body := { i.body with config := i.body.config.put r (snap.config.get r) } }
  else if h : n - 54 < 4 then
    let f : Furnace := ⟨n - 54, h⟩
    { i with body := { i.body with inventories := i.body.inventories.set f snap.inventories[f] } }
  else if n = 58 then { i with crc := imageCheck snap }
  else { i with format := 1 }

/-- SAVE_WRITE_ACKNOWLEDGED (R189, R190): the write on the memory link is done and the next one proceeds, or the save
has ended well. An acknowledgement taken when the own clock is past the access's 100 ms, but before SAVE_ACCESS_TIMEOUT is,
counts: the save goes on or ends well, and no clock is looked at. R190 does not settle it. DESIGN CHOICE, log entry 19. -/
def execSaveWriteAcknowledged (s : State) : Host.Outcome State Fault Refusal :=
  .next (match s.save with
    | none => s
    | some v =>
      let i := writeImage v.snapshot v.written s.image
      if v.written + 1 < saveWrites then
        { s with image := i, save := some { v with written := v.written + 1, accessDue := s.clock + 100 } }
      else { s with image := i, save := none, loadFailed := false })

/-- SAVE_ACCESS_TIMEOUT (R190): 100 ms after the access on the link began, the save fails, and leaves an image that is not good. -/
def execSaveAccessTimeout (s : State) : Host.Outcome State Fault Refusal :=
  .next (match s.save with
    | none => s
    | some v =>
      if v.accessDue ≤ s.clock then
        raise .saveFail none { s with save := none, image := { s.image with format := 0 } }
      else s)

def execSave (p : Port) (tag : Octet) (s : State) : Host.Outcome State Fault Refusal :=
  .next (serve p tag .save reqSave s)

end Sys2Proof.Machine
end

