-- ==== Sys2Proof/Machine/Requests.lean ====
section
/-! DEFINITION. STATUS (R181), the reading of a frame's payload as a request (R176, R178), and the operation of every
request. -/

namespace Sys2Proof.Machine

/-! ## STATUS (R181) -/

/-- Text: its number of characters, and the characters (R178). -/
def textOctets (cs : List Octet) : List Octet := octets 1 cs.length ++ cs

/-- The prover's fields of STATUS: its state, and what is present only while it is RUNNING. -/
def proverStatus (s : State) : List Octet :=
  match s.prover.state with
  | .idle => octets 1 0 ++ octets 1 0 ++ octets 1 0 ++ octets 1 0
  | .running c port due _ =>
    octets 1 1 ++ optional (octets 1) (some c.val) ++ optional (octets 1) (some port.val) ++
      optional (octets 2) (some (secondsLeft s.clock due))

/-- R181. -/
def reqStatus (p : Port) (s : State) : Taken :=
  accept s (octets 1 p.val ++ octets 1 s.phase.code ++ octets 4 s.interval.plantTime ++ yesNo s.interval.timeSet ++
    octets 4 s.interval.number ++ yesNo s.interval.closing.isSome ++ yesNo s.save.isSome ++ proverStatus s ++
    textOctets s.config.plant.plantIdentity ++ textOctets s.config.plant.unitIdentity)

def execStatus (p : Port) (tag : Octet) (s : State) : Host.Outcome State Fault Refusal :=
  .next (serve p tag .status (reqStatus p) s)

/-! ## Reading a payload (R176, R178) -/

/-- What the first three checks of R176 find in a frame: a code outside the table, a length that does not fit with the
length the command requires or the smallest it allows, a value refused with RANGE before the length is compared, or the
request. -/
inductive Parsed where
  | badCommand
  | badLength (required : Nat)
  | range
  | ok (r : Request)
deriving DecidableEq, Repr

/-- Octets cut into numbers of given octet counts. -/
def numbers : List Nat → List Octet → List Nat
  | [], _ => []
  | w :: ws, os => number (os.take w) :: numbers ws (os.drop w)

/-- The octet counts of the arguments of each command whose length is fixed, by command code (R178). -/
def fixedSizes : Nat → Option (List Nat)
  | 1 | 72 | 77 | 81 | 97 | 112 | 120 => some []
  | 17 | 18 | 24 | 28 | 33 | 34 | 35 | 36 | 49 | 51 | 52 | 53 | 54 | 55 | 74 | 75 | 76 | 82 | 100 | 113 | 114 => some [1]
  | 19 | 37 | 96 | 99 => some [1, 1]
  | 32 => some [1, 4, 6, 6]
  | 48 => some [1, 4, 6, 1, 6]
  | 50 => some [1, 4, 4, 4]
  | 64 | 73 => some [4]
  | 80 => some [1, 2]
  | _ => none

/-- The request of a command code and its numbers. -/
def fixedRequest : Nat → List Nat → Option Request
  | 1, [] => some .status
  | 17, [c] => some (.channelRead c)
  | 18, [c] => some (.channelRebase c)
  | 19, [k, x] => some (.setSwitch k x)
  | 24, [n] => some (.slotRead n)
  | 28, [n] => some (.liveRead n)
  | 32, [f, n, b, k] => some (.chargePost f n b k)
  | 33, [f] => some (.furnaceHold f)
  | 34, [f] => some (.furnaceResume f)
  | 35, [f] => some (.furnaceShutdown f)
  | 36, [f] => some (.furnaceWarm f)
  | 37, [f, n] => some (.queueRead f n)
  | 48, [l, j, g, n, a] => some (.jobStart l j g n a)
  | 49, [l] => some (.jobReady l)
  | 50, [l, j, c, k] => some (.tallyPost l j c k)
  | 51, [l] => some (.lineHold l)
  | 52, [l] => some (.lineResume l)
  | 53, [l] => some (.lineShutdown l)
  | 54, [l] => some (.lineWarm l)
  | 55, [l] => some (.stateRead l)
  | 64, [t] => some (.timeSet t)
  | 72, [] => some .intervalRead
  | 73, [n] => some (.intervalReadAt n)
  | 74, [n] => some (.cursorSet n)
  | 75, [n] => some (.totalsRead n)
  | 76, [n] => some (.campaignReset n)
  | 77, [] => some .clearCounts
  | 80, [c, d] => some (.proveStart c d)
  | 81, [] => some .proveStop
  | 82, [c] => some (.proveApply c)
  | 96, [r, m] => some (.lock r m)
  | 97, [] => some .lockCancel
  | 99, [r, w] => some (.configRead r w)
  | 100, [a] => some (.release a)
  | 112, [] => some .alertRead
  | 113, [a] => some (.alertClear a)
  | 114, [a] => some (.alertMask a)
  | 120, [] => some .save
  | _, _ => none

/-- METER_POST: channel, value, and a tag that may be absent; 8 octets without it and 9 with it. A presence octet above
1 is a value out of range (log entry 5). -/
def parseMeterPost (os : List Octet) : Parsed :=
  let c := number (os.take 1)
  let v := number ((os.drop 1).take 6)
  match os.drop 7 with
  | [present] => if present = 0 then .ok (.meterPost c v none) else if present = 1 then .badLength 8 else .range
  | [present, t] =>
    if present = 1 then .ok (.meterPost c v (some t.toNat)) else if present = 0 then .badLength 8 else .range
  | _ => .badLength 8

/-- The items of an entry list: a consumer in one octet and a weight in two. -/
def parseEntries : List Octet → List (Nat × Nat)
  | c :: w1 :: w0 :: rest => (c.toNat, number [w1, w0]) :: parseEntries rest
  | _ => []

/-- A STAGE_WRITE value of a form: the value, none where the length does not fit, or RANGE for a count octet outside its
range (R176). A yes or no octet above 1 is no value of its field. -/
def parseValue : FieldForm → List Octet → Option (Option StageValue)
  | .flag, [o] => some (some (if o = 0 then .flag true else if o = 1 then .flag false else .num o.toNat))
  | .number w _ _, os => if os.length = w then some (some (.num (number os))) else some none
  | .trim, [a, b] => some (some (.trim (signedNumber [a, b])))
  | .entries, n :: items =>
    if 6 < n.toNat then none
    else if items.length = 3 * n.toNat then some (some (.entries (parseEntries items))) else some none
  | .ranks, os => if os.length = 4 then some (some (.ranks (os.map BitVec.toNat))) else some none
  | .text, n :: cs => if 16 < n.toNat then none else if cs.length = n.toNat then some (some (.text cs)) else some none
  | _, _ => some none

/-- STAGE_WRITE: its length depends on the region and field numbers, and on the count octet of a list or of text. The
smallest length it allows is 3. -/
def parseStageWrite : List Octet → Parsed
  | [] => .badLength 3
  | region :: rest =>
    if 52 < region.toNat then .range
    else
      match rest with
      | [] => .badLength 3
      | field :: value =>
        match namedForm region.toNat field.toNat with
        | none => .range
        | some form =>
          match parseValue form value with
          | none => .range
          | some none => .badLength 3
          | some (some v) => .ok (.stageWrite region.toNat field.toNat v)

/-- A frame read as a request (R176, R178). -/
def parse (code : Nat) (payload : List Octet) : Parsed :=
  if code = 16 then parseMeterPost payload
  else if code = 98 then parseStageWrite payload
  else
    match fixedSizes code with
    | none => .badCommand
    | some ws =>
      if payload.length = ws.sum then
        match fixedRequest code (numbers ws payload) with
        | some r => .ok r
        | none => .badCommand
      else .badLength ws.sum

/-! ## The operation of every request -/

/-- What taking a request does, by its defining rule. -/
def requestOp (p : Port) : Request → State → Taken
  | .status => reqStatus p
  | .meterPost c v t => reqMeterPost c v t
  | .channelRead c => reqChannelRead c
  | .channelRebase c => reqChannelRebase c
  | .setSwitch k x => reqSetSwitch p k x
  | .slotRead n => reqSlotRead n
  | .liveRead n => reqLiveRead n
  | .chargePost f n b k => reqChargePost f n b k
  | .furnaceHold f => reqFurnaceHold f
  | .furnaceResume f => reqFurnaceResume f
  | .furnaceShutdown f => reqFurnaceShutdown f
  | .furnaceWarm f => reqFurnaceWarm f
  | .queueRead f n => reqQueueRead f n
  | .jobStart l j g n a => reqJobStart l j g n a
  | .jobReady l => reqJobReady l
  | .tallyPost l j c k => reqTallyPost l j c k
  | .lineHold l => reqLineHold l
  | .lineResume l => reqLineResume l
  | .lineShutdown l => reqLineShutdown l
  | .lineWarm l => reqLineWarm l
  | .stateRead l => reqStateRead l
  | .timeSet t => reqTimeSet t
  | .intervalRead => reqIntervalRead p
  | .intervalReadAt n => reqIntervalReadAt n
  | .cursorSet n => reqCursorSet p n
  | .totalsRead n => reqTotalsRead n
  | .campaignReset n => reqCampaignReset n
  | .clearCounts => reqClearCounts
  | .proveStart c d => reqProveStart p c d
  | .proveStop => reqProveStop
  | .proveApply c => reqProveApply p c
  | .lock r m => reqLock p r m
  | .lockCancel => reqLockCancel p
  | .stageWrite r n v => reqStageWrite p r n v
  | .configRead r w => reqConfigRead p r w
  | .release a => reqRelease p a
  | .alertRead => reqAlertRead p
  | .alertClear a => reqAlertClear p a
  | .alertMask a => reqAlertMask p a
  | .save => reqSave

/-- The request in service is checked and taken, in the order of R176. -/
def takeFrame (p : Port) (fr : Frame) (s : State) : Taken :=
  match parse fr.code.toNat fr.payload with
  | .badCommand => refuse s .badCommand [fr.code]
  | parsed =>
    if s.phase = .starting ∧ fr.code ≠ 1 then refuse s .starting
    else
      match parsed with
      | .badCommand => refuse s .badCommand [fr.code]
      | .badLength required => refuse s .badLength (octets 2 fr.payload.length ++ octets 2 required)
      | .range => refuse s .range
      | .ok r => requestOp p r s

/-- A frame that has become the request in service is taken and answered in one step (R175). -/
def serviceFrame (p : Port) (fr : Frame) (s : State) : State := answer p fr (takeFrame p fr s)

/-- BAD_COMMAND (R176): a frame whose code is not in the table is taken. -/
def execBadCommand (p : Port) (tag code : Octet) (payload : List Octet) (s : State) :
    Host.Outcome State Fault Refusal :=
  .next (serviceFrame p { tag := tag, code := code, payload := payload } s)

end Sys2Proof.Machine
end

