-- ==== Sys2Proof/Machine/Ports.lean ====
section
/-! DEFINITION. The station ports: the reception of frames, service, and breaks (R170 to R175). -/

namespace Sys2Proof.Machine

/-! ## Reception (R171, R174) -/

/-- A frame that passed its check goes to service, becomes the held request, or is discarded (R175). -/
def arrive (p : Port) (fr : Frame) (s : State) : State :=
  let pr := s.ports[p]
  if pr.service.isNone then serviceFrame p fr s
  else if pr.held.isNone then s.setPort p { pr with held := some fr }
  else s

/-- The payload length that the fourth and fifth octets of a partial frame give. -/
def declaredLength (got : List Octet) : Nat := number ((got.drop 3).take 2)

/-- What becomes of a partial frame with its newest octet. -/
inductive Progress where
  | gathering | tooLong | complete
deriving DecidableEq, Repr

/-- R171: too long is found at the fifth octet; a frame is complete at 7 octets plus its payload length. -/
def progress (got : List Octet) : Progress :=
  if got.length < 5 then .gathering
  else if 1024 < declaredLength got then .tooLong
  else if got.length < 7 + declaredLength got then .gathering
  else .complete

def setReceive (p : Port) (r : ReceiveState) (s : State) : State := s.setPort p { s.ports[p] with receive := r }

/-- An octet looked at in HUNTING (R171). -/
def huntOctet (p : Port) (o : Octet) (s : State) : State :=
  setReceive p (if o = 167 then .receiving [o] s.clock else .hunting) s

/-- An octet that joins a partial frame (R171, R174). -/
def gatherOctet (p : Port) (got : List Octet) (s : State) : State :=
  match progress got with
  | .gathering => setReceive p (.receiving got s.clock) s
  | .tooLong => setReceive p .hunting s
  | .complete =>
    let s := setReceive p .hunting s
    match checkedFrame got with
    | some fr => arrive p fr s
    | none => s

/-- OCTET_RECEIVED (R171). A framing fault is discarded, and nothing is received until a line in a break returns to mark
(R172). An octet that comes more than 5 ms after the last one ends a long gap and is looked at in HUNTING (log
entry 16). -/
def execOctetReceived (p : Port) (o : Octet) (stopOk : Bool) (s : State) : Host.Outcome State Fault Refusal :=
  .next (
    let pr := s.ports[p]
    if stopOk = false ∨ pr.atSpace then s
    else
      match pr.receive with
      | .hunting => huntOctet p o s
      | .receiving got last => if last + 5 < s.clock then huntOctet p o s else gatherOctet p (got ++ [o]) s)

/-- GAP_EXPIRY (R171): the gap having run since the last octet, the partial frame is discarded. In HUNTING there is
none. -/
def execGapExpiry (p : Port) (s : State) : Host.Outcome State Fault Refusal :=
  .next (match s.ports[p].receive with
    | .hunting => s
    | .receiving _ last => if last + 5 ≤ s.clock then setReceive p .hunting s else s)

/-! ## Breaks (R172) -/

/-- BREAK (R172): taken once, however long the line stays at space (log entry 18). -/
def execBreak (p : Port) (s : State) : Host.Outcome State Fault Refusal :=
  .next (
    let pr := s.ports[p]
    if pr.atSpace then s
    else
      dropLocks p (s.setPort p { pr with receive := .hunting, service := none, held := none, atSpace := true }))

/-- RECEIVE_LINE_RETURNS_TO_MARK (R172): the port receives again, and a later break can be taken. -/
def execReceiveLineReturnsToMark (p : Port) (s : State) : Host.Outcome State Fault Refusal :=
  .next (s.setPort p { s.ports[p] with atSpace := false })

/-! ## The end of a reply (R175) -/

/-- REPLY_SENT (R175): the request leaves service, and the held request is taken. With no reply going out nothing
ends. -/
def execReplySent (p : Port) (s : State) : Host.Outcome State Fault Refusal :=
  .next (
    let pr := s.ports[p]
    if pr.service.isNone then s
    else
      let s := s.setPort p { pr with service := none, held := none }
      match pr.held with
      | none => s
      | some fr => serviceFrame p fr s)

end Sys2Proof.Machine
end

