-- ==== Sys2Proof/Machine/Clock.lean ====
section
/-! DEFINITION. The part's own clock with no command waiting: the event that is due joins the queue, and with none due a
millisecond passes. DESIGN CHOICE, log entry 2. What comes from outside (octets, breaks, lines, pulses, meter replies, the end of
a reply's transmission, the answers of the serial memory, resets) does not come of itself. -/

namespace Sys2Proof.Machine

/-- An event for each member of a finite range that a test picks. -/
def eventsOf {n : Nat} (due : Fin n → Bool) (event : Fin n → Instr) : List Instr :=
  ((List.finRange n).filter due).map event

/-- The events of plant time and of the interval engine that are due (R111, R116, R122). On an idle part they come before
every other event of their moment, and the expiry follows at once on the tick that reaches the open interval end: a pulse
sample or a reply of that millisecond is taken after it, where R116 lets either be first. DESIGN CHOICE, log entry 2. -/
def plantEvents (s : State) : List Instr :=
  (if s.phase = .running ∧ s.secondDue ≤ s.clock then
      [if s.interval.plantTime < wordLimit then .plantTimeTick else .plantTimeWrap]
    else []) ++
    (if intervalExpired s.interval ∧ s.interval.waiting = .none then [.intervalExpiry] else [])

/-- The work of a close in flight: its settlements and then its end (R119). -/
def closeEvents (s : State) : List Instr :=
  match s.interval.closing with
  | none => []
  | some k =>
    eventsOf (fun c => s.pools[c].closing != 0 && k.snapshot.lists[c].isSome) .closingPoolSettle ++ [.closeEnd]

/-- Whether a slot has a poll to start (R35). -/
def pollDue (s : State) (sl : Slot) : Bool := s.slots[sl].poll.isNone && (firstDue sl s).isSome

/-- The time at which a port's gap expires, in RECEIVING (R171). -/
def gapDue (s : State) (p : Port) : Option Nat :=
  match s.ports[p].receive with
  | .hunting => none
  | .receiving _ last => some (last + 5)

/-- The end time of the prover's run (R151). -/
def proveDue (s : State) : Option Nat :=
  match s.prover.state with
  | .idle => none
  | .running _ _ due _ => some due

/-- The events due at the present time of the part's own clock, in the order in which an idle part takes them: DESIGN
CHOICE, log entry 2. -/
def dueEvents (s : State) : List Instr :=
  plantEvents s ++ closeEvents s ++
    eventsOf (fun sl => reached s s.slots[sl].settleDue) .settleTimerExpiry ++
    eventsOf (fun sl => reached s s.slots[sl].partialDue) .partialTimerExpiry ++
    (if s.sampleDue ≤ s.clock then [.pulseSample] else []) ++
    eventsOf (fun sl => reached s (s.slots[sl].poll.map Poll.limit)) .replyLimitExpiry ++
    eventsOf (pollDue s) .pollStart ++
    eventsOf (staleTimeOut s) .staleTimeExpiry ++
    (if reached s (proveDue s) then [.proveExpiry] else []) ++
    eventsOf (fun l => reached s s.lines[l].holdDue) .holdTimerExpiry ++
    eventsOf (fun p => reached s (gapDue s p)) .gapExpiry ++
    eventsOf (fun r => reached s (lockDue s r)) .lockExpiry ++
    (if reached s (s.save.map Save.accessDue) then [.saveAccessTimeout] else [])

/-- The part with an empty queue: the first event that is due joins the queue, and the own clock stands while any is; with
none due a millisecond passes. -/
def idle (s : State) : State :=
  match dueEvents s with
  | [] => { s with clock := s.clock + 1 }
  | c :: _ => { s with pending := [c] }

end Sys2Proof.Machine
end

