-- ==== Sys2Proof/Machine/Dispatch.lean ====
section
/-! DEFINITION. The effect of every command on everything but the queue: one arm per row of the table. -/

namespace Sys2Proof.Machine

def exec (i : Instr) (s : State) : Host.Outcome State Fault Refusal :=
  match i with
  | .hardwareReset => Sys2Proof.Machine.execHardwareReset s
  | .configLoadDone answered => Sys2Proof.Machine.execConfigLoadDone answered s
  | .plantTimeTick => Sys2Proof.Machine.execPlantTimeTick s
  | .intervalExpiry => Sys2Proof.Machine.execIntervalExpiry s
  | .plantTimeWrap => Sys2Proof.Machine.execPlantTimeWrap s
  | .closingPoolSettle c => Sys2Proof.Machine.execClosingPoolSettle c s
  | .closeEnd => Sys2Proof.Machine.execCloseEnd s
  | .presenceChange sl a b => Sys2Proof.Machine.execPresenceChange sl a b s
  | .codeLineChange sl k1 k2 => Sys2Proof.Machine.execCodeLineChange sl k1 k2 s
  | .settleTimerExpiry sl => Sys2Proof.Machine.execSettleTimerExpiry sl s
  | .partialTimerExpiry sl => Sys2Proof.Machine.execPartialTimerExpiry sl s
  | .pulseInput sl pos => Sys2Proof.Machine.execPulseInput sl pos s
  | .pulseSample => Sys2Proof.Machine.execPulseSample s
  | .pollStart sl => Sys2Proof.Machine.execPollStart sl s
  | .pollReply poll checkPassed address value => Sys2Proof.Machine.execPollReply poll checkPassed address value s
  | .replyLimitExpiry sl => Sys2Proof.Machine.execReplyLimitExpiry sl s
  | .staleTimeExpiry c => Sys2Proof.Machine.execStaleTimeExpiry c s
  | .referencePulse => Sys2Proof.Machine.execReferencePulse s
  | .proveExpiry => Sys2Proof.Machine.execProveExpiry s
  | .holdTimerExpiry l => Sys2Proof.Machine.execHoldTimerExpiry l s
  | .octetReceived p o stopOk => Sys2Proof.Machine.execOctetReceived p o stopOk s
  | .gapExpiry p => Sys2Proof.Machine.execGapExpiry p s
  | .lineBreak p => Sys2Proof.Machine.execBreak p s
  | .replySent p => Sys2Proof.Machine.execReplySent p s
  | .badCommand p tag code payload => Sys2Proof.Machine.execBadCommand p tag code payload s
  | .status p tag => Sys2Proof.Machine.execStatus p tag s
  | .meterPost p tag channel value postTag => Sys2Proof.Machine.execMeterPost p tag channel value postTag s
  | .channelRead p tag channel => Sys2Proof.Machine.execChannelRead p tag channel s
  | .channelRebase p tag channel => Sys2Proof.Machine.execChannelRebase p tag channel s
  | .setSwitch p tag carrier set => Sys2Proof.Machine.execSetSwitch p tag carrier set s
  | .slotRead p tag slot => Sys2Proof.Machine.execSlotRead p tag slot s
  | .liveRead p tag scope => Sys2Proof.Machine.execLiveRead p tag scope s
  | .chargePost p tag furnace serial batch cullet => Sys2Proof.Machine.execChargePost p tag furnace serial batch cullet s
  | .furnaceHold p tag furnace => Sys2Proof.Machine.execFurnaceHold p tag furnace s
  | .furnaceResume p tag furnace => Sys2Proof.Machine.execFurnaceResume p tag furnace s
  | .furnaceShutdown p tag furnace => Sys2Proof.Machine.execFurnaceShutdown p tag furnace s
  | .furnaceWarm p tag furnace => Sys2Proof.Machine.execFurnaceWarm p tag furnace s
  | .queueRead p tag furnace start => Sys2Proof.Machine.execQueueRead p tag furnace start s
  | .jobStart p tag line jobId gobMass gobsPerCut articleMass => Sys2Proof.Machine.execJobStart p tag line jobId gobMass gobsPerCut articleMass s
  | .jobReady p tag line => Sys2Proof.Machine.execJobReady p tag line s
  | .tallyPost p tag line jobId cuts packed => Sys2Proof.Machine.execTallyPost p tag line jobId cuts packed s
  | .lineHold p tag line => Sys2Proof.Machine.execLineHold p tag line s
  | .lineResume p tag line => Sys2Proof.Machine.execLineResume p tag line s
  | .lineShutdown p tag line => Sys2Proof.Machine.execLineShutdown p tag line s
  | .lineWarm p tag line => Sys2Proof.Machine.execLineWarm p tag line s
  | .stateRead p tag line => Sys2Proof.Machine.execStateRead p tag line s
  | .timeSet p tag t => Sys2Proof.Machine.execTimeSet p tag t s
  | .intervalRead p tag => Sys2Proof.Machine.execIntervalRead p tag s
  | .intervalReadAt p tag number => Sys2Proof.Machine.execIntervalReadAt p tag number s
  | .cursorSet p tag place => Sys2Proof.Machine.execCursorSet p tag place s
  | .totalsRead p tag consumer => Sys2Proof.Machine.execTotalsRead p tag consumer s
  | .campaignReset p tag consumer => Sys2Proof.Machine.execCampaignReset p tag consumer s
  | .clearCounts p tag => Sys2Proof.Machine.execClearCounts p tag s
  | .proveStart p tag channel duration => Sys2Proof.Machine.execProveStart p tag channel duration s
  | .proveStop p tag => Sys2Proof.Machine.execProveStop p tag s
  | .proveApply p tag channel => Sys2Proof.Machine.execProveApply p tag channel s
  | .lock p tag region mode => Sys2Proof.Machine.execLock p tag region mode s
  | .lockCancel p tag => Sys2Proof.Machine.execLockCancel p tag s
  | .stageWrite p tag region field value => Sys2Proof.Machine.execStageWrite p tag region field value s
  | .configRead p tag region which => Sys2Proof.Machine.execConfigRead p tag region which s
  | .release p tag action => Sys2Proof.Machine.execRelease p tag action s
  | .lockExpiry r => Sys2Proof.Machine.execLockExpiry r s
  | .alertRead p tag => Sys2Proof.Machine.execAlertRead p tag s
  | .alertClear p tag source => Sys2Proof.Machine.execAlertClear p tag source s
  | .alertMask p tag levels => Sys2Proof.Machine.execAlertMask p tag levels s
  | .save p tag => Sys2Proof.Machine.execSave p tag s
  | .saveWriteAcknowledged => Sys2Proof.Machine.execSaveWriteAcknowledged s
  | .saveAccessTimeout => Sys2Proof.Machine.execSaveAccessTimeout s
  | .receiveLineReturnsToMark p => Sys2Proof.Machine.execReceiveLineReturnsToMark p s

end Sys2Proof.Machine
end

