-- ==== Sys2Proof/WellFormed.lean ====
section
/-! DEFINITION. Well-formed commands: every argument can be spelled in the octets R178 gives it. -/

namespace Sys2Proof

open Machine

/-- A STAGE_WRITE value that the coding of a field's form can spell (R178). Whether it lies in the field's range is the
part's own check (R162). -/
def StageValue.spells : FieldForm → StageValue → Bool
  | .flag, .flag _ => true
  | .number w _ _, .num n => decide (n < 256 ^ w)
  | .trim, .trim t => decide (-32768 ≤ t ∧ t ≤ 32767)
  | .entries, .entries l => decide (l.length ≤ 6) && l.all fun e => decide (e.1 < 256 ∧ e.2 < 65536)
  | .ranks, .ranks l => decide (l.length = 4) && l.all fun p => decide (p < 256)
  | .text, .text cs => decide (cs.length ≤ 16)
  | _, _ => false

/-- A well-formed request: every number fits its octets, and what follows the numbers can be spelled. -/
def Request.wf (r : Request) : Bool :=
  (requestNumbers r).all (fun wn => decide (wn.2 < 256 ^ wn.1)) &&
    match r with
    | .meterPost _ _ tag => tag.all fun t => decide (t < 256)
    | .stageWrite region field v => (namedForm region field).any fun f => v.spells f
    | _ => true

/-- The request of a request row, with the port and the tag of its frame; none for the rows that are events. -/
def Instr.asRequest : Instr → Option (Port × Octet × Request)
  | .status p t => some (p, t, .status)
  | .meterPost p t c v x => some (p, t, .meterPost c v x)
  | .channelRead p t c => some (p, t, .channelRead c)
  | .channelRebase p t c => some (p, t, .channelRebase c)
  | .setSwitch p t k x => some (p, t, .setSwitch k x)
  | .slotRead p t n => some (p, t, .slotRead n)
  | .liveRead p t n => some (p, t, .liveRead n)
  | .chargePost p t f n b k => some (p, t, .chargePost f n b k)
  | .furnaceHold p t f => some (p, t, .furnaceHold f)
  | .furnaceResume p t f => some (p, t, .furnaceResume f)
  | .furnaceShutdown p t f => some (p, t, .furnaceShutdown f)
  | .furnaceWarm p t f => some (p, t, .furnaceWarm f)
  | .queueRead p t f n => some (p, t, .queueRead f n)
  | .jobStart p t l j g n a => some (p, t, .jobStart l j g n a)
  | .jobReady p t l => some (p, t, .jobReady l)
  | .tallyPost p t l j c k => some (p, t, .tallyPost l j c k)
  | .lineHold p t l => some (p, t, .lineHold l)
  | .lineResume p t l => some (p, t, .lineResume l)
  | .lineShutdown p t l => some (p, t, .lineShutdown l)
  | .lineWarm p t l => some (p, t, .lineWarm l)
  | .stateRead p t l => some (p, t, .stateRead l)
  | .timeSet p t n => some (p, t, .timeSet n)
  | .intervalRead p t => some (p, t, .intervalRead)
  | .intervalReadAt p t n => some (p, t, .intervalReadAt n)
  | .cursorSet p t n => some (p, t, .cursorSet n)
  | .totalsRead p t n => some (p, t, .totalsRead n)
  | .campaignReset p t n => some (p, t, .campaignReset n)
  | .clearCounts p t => some (p, t, .clearCounts)
  | .proveStart p t c d => some (p, t, .proveStart c d)
  | .proveStop p t => some (p, t, .proveStop)
  | .proveApply p t c => some (p, t, .proveApply c)
  | .lock p t r m => some (p, t, .lock r m)
  | .lockCancel p t => some (p, t, .lockCancel)
  | .stageWrite p t r n v => some (p, t, .stageWrite r n v)
  | .configRead p t r w => some (p, t, .configRead r w)
  | .release p t a => some (p, t, .release a)
  | .alertRead p t => some (p, t, .alertRead)
  | .alertClear p t a => some (p, t, .alertClear a)
  | .alertMask p t a => some (p, t, .alertMask a)
  | .save p t => some (p, t, .save)
  | .hardwareReset | .configLoadDone _ | .plantTimeTick | .intervalExpiry | .plantTimeWrap | .closingPoolSettle _
  | .closeEnd | .presenceChange .. | .codeLineChange .. | .settleTimerExpiry _ | .partialTimerExpiry _
  | .pulseInput .. | .pulseSample | .pollStart _ | .pollReply .. | .replyLimitExpiry _ | .staleTimeExpiry _
  | .referencePulse | .proveExpiry | .holdTimerExpiry _ | .octetReceived .. | .gapExpiry _ | .lineBreak _
  | .replySent _ | .badCommand .. | .lockExpiry _ | .saveWriteAcknowledged | .saveAccessTimeout
  | .receiveLineReturnsToMark _ => none

/-- A well-formed command. A meter's reply names an address in one octet and carries 0 to 2^40 - 1 (2.5). A BAD_COMMAND
row has a code that is not in the command table, and a payload that a frame can hold (R173, R178). -/
def Instr.wf (i : Instr) : Bool :=
  match i with
  | .pollReply _ _ address value => decide (address < 256 ∧ value < 2 ^ 40)
  | .badCommand _ _ code payload => parse code.toNat payload == .badCommand && decide (payload.length ≤ 1024)
  | i =>
    match i.asRequest with
    | some (_, _, r) => r.wf
    | none => true

end Sys2Proof
end

