-- ==== Sys2Proof/Safety.lean ====
section
/-! DEFINITION. What the statements are made of: the answered request, the invariants of the part, and the sums that
balance. -/

namespace Sys2Proof.Machine

/-! ## Answers -/

/-- The state in which the request of a port stands answered: `s` with the request in service and its reply. -/
def replied (p : Port) (tag : Octet) (r : Request) (st : Status) (payload : List Octet) (s : State) : State :=
  s.setPort p
    { s.ports[p] with
      service := some { request := requestFrame tag r, reply := { tag := tag, status := st, payload := payload } } }

/-! ## Closes -/

/-- R114, R115: `t` is `s` with a close begun whose closing interval ends at `e` and whose new open interval starts at
`start`. Everything that is not named is as it was. -/
def CloseBegun (s t : State) (e start : Nat) (short : Bool) : Prop :=
  let length := s.interval.pendingLength.getD s.interval.length
  { t with closingBank := s.closingBank, openBank := s.openBank, pools := s.pools, interval := s.interval } = s ∧
  t.closingBank = s.openBank ∧ t.openBank = .zero ∧
  (∀ c : Chan, t.pools[c] = { opened := 0, closing := s.pools[c].opened }) ∧
  t.interval =
    { s.interval with
      length := length, pendingLength := none, number := s.interval.number + 1, startTime := start,
      endTime := openEnd length start, cleared := false, first := false,
      closing := some { number := s.interval.number, startTime := s.interval.startTime, endTime := e, short := short,
                        cleared := s.interval.cleared, first := s.interval.first, snapshot := takeSnapshot s } }

/-- R10: `t` is `s` with a new plant time, which every channel that is not INACTIVE takes as its last reading time. -/
def TimeChanged (s t : State) (time : Nat) (timeSet : Bool) : Prop :=
  { t with channels := s.channels, interval := s.interval } = s ∧
  t.interval = { s.interval with plantTime := time, timeSet := timeSet } ∧
  ∀ c : Chan, t.channels[c] =
    if s.channels[c].state = .inactive then s.channels[c] else { s.channels[c] with lastReading := time }

/-- A TOTAL reading `v` against a base `b`, as R14 classes it with the limit of R12: its outcome `o`, its increment `u`
and the base after it. -/
def ClassedAs (modulus limit b v : Nat) (o : ReadingOutcome) (u base : Nat) : Prop :=
  ∃ d : Nat, (d : Int) = ((v : Int) - b) % modulus ∧
    ((d ≤ limit ∧ o = .booked ∧ u = d ∧ base = v) ∨
     (limit < d ∧ modulus - d ≤ limit ∧ o = .backstep ∧ u = 0 ∧ base = b) ∨
     (limit < d ∧ limit < modulus - d ∧ o = .clamped ∧ u = limit ∧ base = v))

/-! ## Alerts -/

/-- R180, R182: the alerts and the ports of `t` are those of `s` with just the named sources raised on every port, each for
its objects (none for a source without object type): every other source and every mask is as it was, an object set stays
rising (log entry 26), and the attention outputs follow. -/
def RaisedJust (raised : AlertSource → Option Nat → Prop) (s t : State) : Prop :=
  (∀ p : Port,
    t.alerts[p].mask = s.alerts[p].mask ∧
    ∀ src : AlertSource,
      let old := (s.alerts[p].pending[src.code]).getD []
      ((∀ obj, ¬ raised src obj) → t.alerts[p].pending[src.code] = s.alerts[p].pending[src.code]) ∧
      ((∃ obj, raised src obj) →
        ∃ set, t.alerts[p].pending[src.code] = some set ∧ (∀ n, n ∈ set ↔ raised src (some n) ∨ n ∈ old) ∧
          (old.Pairwise (· < ·) → set.Pairwise (· < ·)))) ∧
  ((∀ src obj, ¬ raised src obj) → t.ports = s.ports) ∧
  ((∃ src obj, raised src obj) →
    ∀ p : Port, t.ports[p] = { s.ports[p] with attention := t.alerts[p].wantsAttention })

/-! ## Runs (R152, R154) -/

/-- Whether the prover's run is on a channel. -/
def proverOn (s : State) (c : Chan) : Bool :=
  match s.prover.state with
  | .idle => false
  | .running c' _ _ _ => c' == c

/-- The record of a channel after the abort of the run on it, if there is one: the mark cleared, and a prove record of
outcome ABORTED and deviation 0 with the sums as they stand and the present plant time (R152, R154). -/
def released (s : State) (c : Chan) : ChannelRecord :=
  if proverOn s c then
    { s.channels[c] with
      underProve := false,
      prove := { outcome := .aborted, deviation := 0, channelUnits := s.prover.channelUnits,
                 referenceUnits := s.prover.referenceUnits, endTime := s.interval.plantTime } }
  else s.channels[c]

/-- R152, R154: `t` is `s` with the run on a channel aborted: the channel's record as `released` says, the prover IDLE with
its sums, and PROVE_DONE raised. With no run on the channel nothing changes. -/
def RunAborted (c : Chan) (s t : State) : Prop :=
  (proverOn s c = false → t = s) ∧
  (proverOn s c = true →
    t = raise .proveDone (some c.val) ((s.setChannel c (released s c)).setProver { s.prover with state := .idle }))

/-! ## Activation and adoption (R4 to R6, R38, R55, R71, R106, R113, R159) -/

/-- The table of R4: the state and base that a channel configured as `g` is activated to, against its slot's state and its
position's counter. -/
def ActivatesTo (g : ChannelConfig) (slot : SlotState) (counter : Nat) (st : ChannelState) (base : Option Nat) : Prop :=
  (g.source = .port → g.kind = .total → st = .basing ∧ base = none) ∧
  (g.source = .port → g.kind = .delta → st = .live ∧ base = none) ∧
  (g.source = .slot →
    ((∀ m, slot ≠ .ready m) → st = .offline .slotNotReady ∧ base = none) ∧
    ∀ m, slot = .ready m →
      (g.expected = .pulse → m ≠ .serial4 → st = .live ∧ base = some counter) ∧
      (g.expected = .serial → m = .serial4 → st = .basing ∧ base = none) ∧
      ((g.expected = .pulse ↔ m = .serial4) → st = .offline .mismatch ∧ base = none))

/-- R6: whether an adoption that leaves an active channel active changes its metering identity; a field counts where it
applies by R3 under the new configuration. -/
def IdentityChanged (old new : ChannelConfig) : Prop :=
  let serial := new.source = .slot ∧ new.expected = .serial
  new.source ≠ old.source ∨ new.carrier ≠ old.carrier ∨ (new.source = .slot ∧ new.expected ≠ old.expected) ∨
    (new.source = .port ∧ new.kind ≠ old.kind) ∨
    ((serial ∨ (new.source = .port ∧ new.kind = .total)) ∧ new.modulus ≠ old.modulus) ∨
    (serial ∧ new.address ≠ old.address)

/-- What an activation or a deactivation leaves of a channel's position (R35, R38): due now with no failed polls where it
is pollable after it, and otherwise without a next poll due. -/
def renewed (t : State) (c : Chan) (pr : PositionRecord) : PositionRecord :=
  if pollable t c then { pr with nextDue := some t.clock, failed := 0 } else { pr with nextDue := none }

/-- R4 to R6, R38, R55, R152: `t` is `s` with a CHANNEL region adopted. -/
def ChannelAdopted (c : Chan) (old new : ChannelConfig) (s t : State) : Prop :=
  let sl := slotOf c
  let now := s.interval.plantTime
  let fresh := new.active = true ∧ (old.active = false ∨ IdentityChanged old new)
  let stopped := old.active = true ∧ new.active = false
  let stale := old.active = true ∧ new.active = true ∧ ¬ IdentityChanged old new ∧ new.source = .port ∧
    new.staleTime ≠ old.staleTime ∧ (s.channels[c].state = .basing ∨ s.channels[c].state = .live) ∧
    s.channels[c].lastReading + new.staleTime ≤ now
  let aborts := old.active = true ∧ (fresh ∨ stopped ∨ stale)
  let settles := old.mode = .driver ∧ old.active = true ∧
    (new.mode ≠ old.mode ∨ new.entries ≠ old.entries ∨ new.active ≠ old.active)
  { t with config := s.config, openBank := s.openBank, pools := s.pools, channels := s.channels, prover := s.prover,
           slots := s.slots, alerts := s.alerts, ports := s.ports } = s ∧
  t.config = { s.config with channels := s.config.channels.set c new } ∧
  (settles → t.openBank = settle old.entries s.pools[c].opened s.openBank ∧
    t.pools = s.pools.set c { s.pools[c] with opened := 0 }) ∧
  (¬ settles → t.openBank = s.openBank ∧ t.pools = s.pools) ∧
  (∀ c' : Chan, c' ≠ c → t.channels[c'] = s.channels[c']) ∧
  (∃ r : ChannelRecord,
    (aborts → r = released s c ∧
      (proverOn s c = true → t.prover = { s.prover with state := .idle }) ∧
      (proverOn s c = false → t.prover = s.prover)) ∧
    (¬ aborts → r = s.channels[c] ∧ t.prover = s.prover) ∧
    (fresh → ∃ st base, ActivatesTo new s.slots[sl].state (s.position c).counter st base ∧
      t.channels[c] = { r with state := st, base := base, lastReading := now }) ∧
    (stopped → t.channels[c] = { r with state := .inactive, base := none, carry := 0 }) ∧
    (stale → t.channels[c] = { r with state := .stale }) ∧
    (¬ fresh → ¬ stopped → ¬ stale → t.channels[c] = r)) ∧
  RaisedJust (fun src obj => obj = some c.val ∧
    ((src = .proveDone ∧ aborts ∧ proverOn s c = true) ∨ (src = .channelStale ∧ stale) ∨
      (src = .moduleMismatch ∧ fresh ∧ t.channels[c].state = .offline .mismatch))) s t ∧
  (∀ sl' : Slot, sl' ≠ sl → t.slots[sl'] = s.slots[sl']) ∧
  (¬ fresh → ¬ stopped → t.slots = s.slots) ∧
  (fresh ∨ stopped →
    t.slots[sl] =
      { s.slots[sl] with
        poll := if old.active = true ∧ s.slots[sl].poll.map Poll.position = some (positionOf c) then none
          else s.slots[sl].poll,
        positions := s.slots[sl].positions.set (positionOf c) (renewed t c (s.position c)) })

/-- R71, R73: `t` is `s` with a furnace's CONSUMER region adopted. -/
def FurnaceAdopted (f : Furnace) (old new : FurnaceConfig) (s t : State) : Prop :=
  let s' := s.setConfig { s.config with furnaces := s.config.furnaces.set f new }
  let r := s.furnaces[f]
  let m := new.openingMass
  let k := new.openingMass * new.openingCullet / 1000
  (new.enabled = old.enabled → t = s') ∧
  (old.enabled = false → new.enabled = true →
    t = s'.setFurnace f
      { state := some .hold, lastSerial := 0, lastCullet := new.openingCullet,
        queue := if m = 0 then [] else
          [{ serial := 0, arrival := s.interval.plantTime, originalMass := m, originalCullet := k, remainingMass := m,
             remainingCullet := k }],
        inventoryMass := m, inventoryCullet := k }) ∧
  (old.enabled = true → new.enabled = false →
    t = (s'.setOpenBank (s.openBank.add (.furnace f .drained) r.inventoryMass)).setFurnace f
      { r with state := none, queue := [], inventoryMass := 0, inventoryCullet := 0 })

/-- R106: `t` is `s` with a line's CONSUMER region adopted. -/
def LineAdopted (l : Line) (old new : LineConfig) (s t : State) : Prop :=
  let s' := s.setConfig { s.config with lines := s.config.lines.set l new }
  (new.enabled = old.enabled → t = s') ∧
  (new.enabled ≠ old.enabled →
    t = s'.setLine l
      { state := if new.enabled then some .hold else none, current := none, previous := none, latched := none,
        resume := .producing, holdDue := none })

/-- R113, R159: `t` is `s` with the PLANT region adopted. -/
def PlantAdopted (old new : PlantConfig) (s t : State) : Prop :=
  { t with config := s.config, interval := s.interval, locks := s.locks } = s ∧
  t.config = { s.config with plant := new } ∧
  t.interval =
    { s.interval with
      pendingLength :=
        if new.intervalLength = old.intervalLength then s.interval.pendingLength
        else if new.intervalLength = s.interval.length then none else some new.intervalLength } ∧
  (new.rank = old.rank → t.locks = s.locks) ∧
  ∀ r : RegionNo,
    t.locks[r].hold = s.locks[r].hold ∧ t.locks[r].waitList.Perm s.locks[r].waitList ∧
    (new.rank ≠ old.rank → t.locks[r].waitList.Pairwise fun p q => rankAt new.rank p ≤ rankAt new.rank q)

/-- R166: `t` is `s` with a staging copy of a region's kind adopted. -/
def Adopted (r : RegionNo) (v : RegionValue) (s t : State) : Prop :=
  match regionOf r, v with
  | .channel c, .channel new => ChannelAdopted c s.config.channels[c] new s t
  | .carrier k, .carrier new => t = s.setConfig { s.config with carriers := s.config.carriers.set k new }
  | .furnace f, .furnace new => FurnaceAdopted f s.config.furnaces[f] new s t
  | .line l, .line new => LineAdopted l s.config.lines[l] new s t
  | .plant, .plant new => PlantAdopted s.config.plant new s t
  | _, _ => True

/-! ## Validation (R165) -/

/-- The table of R165: whether a staging copy fails the check of a reason, against the committed values of the other
regions and the state of the part. -/
def Fails (s : State) (r : RegionNo) (v : RegionValue) (why : Reason) : Prop :=
  let g := s.config
  let named (x : Consumer) : Prop := ∃ c : Chan, g.channels[c].active = true ∧ ∃ e ∈ g.channels[c].entries, e.consumer = x
  match why, regionOf r, v with
  | .valueRange, .channel _, .channel v =>
    v.active = true ∧ ((v.source = .slot ∧ v.expected = .serial) ∨ (v.source = .port ∧ v.kind = .total)) ∧
      v.modulus ≤ 2 * v.rateCeiling
  | .entryCount, .channel _, .channel v => v.entries = []
  | .entryDuplicate, .channel _, .channel v => ¬ (v.entries.map Entry.consumer).Nodup
  | .consumerDisabled, .channel _, .channel v =>
    v.active = true ∧
      ((∃ f : Furnace, g.furnaces[f].enabled = false ∧ ∃ e ∈ v.entries, e.consumer = .furnace f) ∨
        ∃ l : Line, g.lines[l].enabled = false ∧ ∃ e ∈ v.entries, e.consumer = .line l)
  | .shareSum, .channel _, .channel v => v.mode = .fixed ∧ (v.entries.map Entry.weight).sum ≠ 1000
  | .tagSource, .channel _, .channel v => v.mode = .tagged ∧ v.source = .slot
  | .setUnset, .channel _, .channel v => v.active = true ∧ (g.carriers[v.carrier.index]).factor v.set = 0
  | .setInUse, .carrier k, .carrier v =>
    ∃ c : Chan, g.channels[c].active = true ∧ g.channels[c].carrier.index = k ∧ v.factor g.channels[c].set = 0
  | .lineNotCold, .line l, .line v =>
    g.lines[l].enabled = true ∧ s.lines[l].state ≠ some .cold ∧
      (v.enabled ≠ g.lines[l].enabled ∨ v.feeding ≠ g.lines[l].feeding)
  | .lineDrew, .line l, .line v => v.feeding ≠ g.lines[l].feeding ∧ 0 < s.openBank.get (.line l .pulled)
  | .consumerReferenced, .furnace f, .furnace v =>
    g.furnaces[f].enabled = true ∧ v.enabled = false ∧
      (named (.furnace f) ∨ ∃ l : Line, g.lines[l].enabled = true ∧ g.lines[l].feeding = f)
  | .consumerReferenced, .line l, .line v => g.lines[l].enabled = true ∧ v.enabled = false ∧ named (.line l)
  | .intervalLength, .plant, .plant v => ¬ (5 ≤ v.intervalLength ∧ 1440 % v.intervalLength = 0)
  | .rankInvalid, .plant, .plant v => ¬ (v.rank.length = 4 ∧ ∀ p : Port, p ∈ v.rank)
  | _, _, _ => False

/-- The numbers of the fields that the check of a reason looks at; a REJECTED reply names one of them (log entry 1). -/
def Reason.fields : Reason → List Nat
  | .valueRange => [5, 10]
  | .entryCount | .entryDuplicate | .consumerDisabled | .shareSum => [14]
  | .tagSource => [2, 13]
  | .setUnset => [0, 1, 11]
  | .setInUse => [0, 2]
  | .lineNotCold => [0, 1]
  | .lineDrew | .rankInvalid => [1]
  | .consumerReferenced | .intervalLength => [0]

/-! ## Bookings (R41, R43, R44) -/

/-- The accumulator that energy booked to a consumer as producing or as standby energy goes to (R43). -/
def energyOf (producing : Bool) : Consumer → Account
  | .furnace f => .furnace f (if producing then .producing else .standby)
  | .line l => .line l (if producing then .producing else .standby)
  | .common => .common

/-- Whether a consumer is a furnace or a line in producing class (the table of R43). -/
def inProducingClass (s : State) : Consumer → Bool
  | .furnace f => s.furnaces[f].state == some .melting
  | .line l =>
    s.lines[l].state == some .producing || s.lines[l].state == some .jobChange || s.lines[l].state == some .holdPending
  | .common => false

/-- The accumulators of a list of consumers, each in its class, with the parts of a quantity split by weights or other
bases (R44, R46). -/
def shares (q : Nat) (accounts : List Account) (bases : List Nat) : List (Account × Nat) := accounts.zip (split q bases)

/-- A bank after bookings to named accumulators (R41, R44). -/
def Bank.booked (parts : List (Account × Nat)) (b : Bank) : Bank := parts.foldl (fun b x => b.add x.1 x.2) b

/-! ## Campaign totals (R141, R142) -/

/-- R142: `u` is `t` with a settled closing bank and the melt shares of its record added, every accumulator held at
2^56 - 1. A lower-bound mark is set where the bank was saturated or one of the account's accumulators passed. -/
def TotalsAdded (r : IntervalResult) (b : Bank) (t u : Totals) : Prop :=
  let top := 2 ^ 56 - 1
  let share (l : Line) : Nat :=
    match r.lines.find? fun e => e.line == l with
    | some e => e.meltShare
    | none => 0
  let counted (old new : Since) (passed : Prop) : Prop :=
    new.interval = old.interval ∧ new.time = old.time ∧
    new.added = (if old.added < 2 ^ 32 - 1 then old.added + 1 else old.added) ∧
    (new.lowerBound = true ↔ old.lowerBound = true ∨ b.saturated = true ∨ passed)
  (∀ f : Furnace,
    (∀ k : FurnaceKey, u.furnaces[f].sums.get k = min (t.furnaces[f].sums.get k + b.get (.furnace f k)) top) ∧
    counted t.furnaces[f].since u.furnaces[f].since (∃ k, top < t.furnaces[f].sums.get k + b.get (.furnace f k))) ∧
  (∀ l : Line,
    (∀ k : LineKey, u.lines[l].sums.get k = min (t.lines[l].sums.get k + b.get (.line l k)) top) ∧
    u.lines[l].meltShare = min (t.lines[l].meltShare + share l) top ∧
    counted t.lines[l].since u.lines[l].since
      (top < t.lines[l].meltShare + share l ∨ ∃ k, top < t.lines[l].sums.get k + b.get (.line l k))) ∧
  u.common.energy = min (t.common.energy + b.common) top ∧
  counted t.common.since u.common.since (top < t.common.energy + b.common)

/-! ## Invariants -/

/-- R180: every attention output is asserted exactly while an unmasked source is pending. -/
def AttentionFollows (s : State) : Prop := ∀ p : Port, s.ports[p].attention = s.alerts[p].wantsAttention

/-- Whether each record's number is one more than the number before it. -/
def consecutive : List IntervalResult → Bool
  | a :: b :: rest => b.number == a.number + 1 && consecutive (b :: rest)
  | _ => true

/-- Whether a number designates a held record or the write position (R136). -/
def designates (s : State) (n : Nat) : Bool := s.ring.any (·.number == n) || n == writeNumber s

/-- R134, R136: the ring's order and size, the write number after the newest held record, the numbering of a close in
flight, and the cursors. -/
def RingOrdered (s : State) : Prop :=
  consecutive s.ring = true ∧ s.ring.length ≤ ringLimit ∧
    (∀ r, s.ring.getLast? = some r → writeNumber s = r.number + 1) ∧
    (∀ k, s.interval.closing = some k → s.interval.number = k.number + 1) ∧
    ∀ p : Port, designates s s.cursors[p].number = true

/-- R157: what a lock record and the port records say of each other. -/
def LocksAgree (s : State) : Prop :=
  (∀ r : RegionNo,
    match s.locks[r].hold with
    | none => s.locks[r].waitList = []
    | some h => s.portLocks[h.port].held = some r ∧ h.staging.kind = (regionOf r).kind) ∧
  (∀ r : RegionNo, s.locks[r].waitList.Nodup ∧ ∀ q ∈ s.locks[r].waitList, s.portLocks[q].waited = some r) ∧
  ∀ p : Port,
    (∀ r, s.portLocks[p].held = some r → (s.locks[r].hold).map Hold.port = some p) ∧
    (∀ r, s.portLocks[p].waited = some r → p ∈ s.locks[r].waitList) ∧
    (s.portLocks[p].held = none ∨ s.portLocks[p].waited = none)

/-- R2, R147, R149: the mark under prove stands on the claimed channel of a run and nowhere else, that channel is LIVE, and
a channel is INACTIVE exactly where its region says that it is not active. In STARTING no channel is active (R187), and
a poll in flight belongs to a channel that is not INACTIVE (R34, R38). -/
def ProverAgrees (s : State) : Prop :=
  (∀ c : Chan, s.channels[c].underProve = true ↔ ∃ p t w, s.prover.state = .running c p t w) ∧
  (∀ c p t w, s.prover.state = .running c p t w → s.channels[c].state = .live) ∧
  (∀ c : Chan, s.channels[c].state = .inactive ↔ s.config.channels[c].active = false) ∧
  (s.phase = .starting → ∀ c : Chan, s.config.channels[c].active = false) ∧
  ∀ (sl : Slot) (q : Poll), s.slots[sl].poll = some q → s.channels[chanAt sl q.position].state ≠ .inactive

/-- The accumulators of a bank are within 0 to 2^48 - 1 (R41). -/
def Bank.within (b : Bank) : Prop := ∀ a : Account, b.get a ≤ bankLimit

/-- The accumulators of the campaign totals are within 0 to 2^56 - 1 (R141). -/
def Totals.within (t : Totals) : Prop :=
  (∀ (f : Furnace) (k : FurnaceKey), t.furnaces[f].sums.get k ≤ totalsLimit) ∧
  (∀ (l : Line) (k : LineKey), t.lines[l].sums.get k ≤ totalsLimit) ∧
  (∀ l : Line, t.lines[l].meltShare ≤ totalsLimit) ∧ t.common.energy ≤ totalsLimit

/-- R2, R25, R41, R51, R141, R147: the sums, carries and counters of the part keep within their widths. -/
def WithinWidths (s : State) : Prop :=
  s.openBank.within ∧ s.closingBank.within ∧ s.totals.within ∧
  (∀ c : Chan, s.pools[c].opened ≤ bankLimit ∧ s.pools[c].closing ≤ bankLimit) ∧
  (∀ c : Chan, s.channels[c].carry < carryUnit) ∧
  s.prover.channelUnits ≤ proverLimit ∧ s.prover.referenceUnits ≤ proverLimit ∧
  ∀ (sl : Slot) (q : Position), s.slots[sl].positions[q].counter < 65536 ∧ s.slots[sl].positions[q].failed ≤ 3

/-- A queue of a furnace record (R75): its inventories are the sums over its records, every record holds some mass and no
more than it began with, there are at most 64 of them, and a COLD furnace has none (R69, R83). -/
def FurnaceRecord.sound (r : FurnaceRecord) : Prop :=
  (r.queue.map Charge.remainingMass).sum = r.inventoryMass ∧
  (r.queue.map Charge.remainingCullet).sum = r.inventoryCullet ∧
  (∀ q ∈ r.queue, 0 < q.remainingMass ∧ q.remainingMass ≤ q.originalMass) ∧
  r.queue.length ≤ queueLimit ∧ (r.state = some .cold → r.queue = [])

/-- R75 of every furnace. -/
def QueuesSound (s : State) : Prop := ∀ f : Furnace, s.furnaces[f].sound

/-- R63, R72, R75, R76: the serials of a queue rise strictly from the oldest record to the newest and none is above the
last serial, no record holds more cullet than glass, and serial, ratio and inventory keep their ranges. -/
def FurnaceRecord.ordered (r : FurnaceRecord) : Prop :=
  (r.queue.map Charge.serial).Pairwise (· < ·) ∧
  (∀ q ∈ r.queue, q.serial ≤ r.lastSerial ∧ q.remainingCullet ≤ q.remainingMass ∧ q.originalCullet ≤ q.originalMass) ∧
  r.lastSerial ≤ wordLimit ∧ r.lastCullet ≤ 1000 ∧ r.inventoryMass ≤ inventoryLimit

/-- The ranges of an opening inventory mass and an opening cullet (R61). -/
def openingInRange (mass cullet : Nat) : Prop := mass ≤ inventoryLimit ∧ cullet ≤ 1000

/-- R75 of every furnace, with the openings from which a furnace may start in their ranges: committed, staged, and those of
the image and of the snapshot of a save. -/
def QueuesOrdered (s : State) : Prop :=
  (∀ f : Furnace, s.furnaces[f].ordered) ∧
  (∀ f : Furnace, openingInRange s.config.furnaces[f].openingMass s.config.furnaces[f].openingCullet) ∧
  (∀ (r : RegionNo) (h : Hold) (g : FurnaceConfig), s.locks[r].hold = some h → h.staging = .furnace g →
    openingInRange g.openingMass g.openingCullet) ∧
  (∀ f : Furnace, openingInRange s.image.body.inventories[f].1 s.image.body.inventories[f].2) ∧
  ∀ (v : Save) (f : Furnace), s.save = some v →
    openingInRange v.snapshot.inventories[f].1 v.snapshot.inventories[f].2

/-- R66, R104: every enabled line in PRODUCING, JOB_CHANGE or HOLD_PENDING is fed by an enabled furnace in MELTING. -/
def LinesFed (s : State) : Prop :=
  ∀ l : Line, s.config.lines[l].enabled = true →
    s.lines[l].state = some .producing ∨ s.lines[l].state = some .jobChange ∨ s.lines[l].state = some .holdPending →
    s.config.furnaces[s.config.lines[l].feeding].enabled = true ∧
      s.furnaces[s.config.lines[l].feeding].state = some .melting

/-! ## Sums that balance (R42, R133) -/

/-- The energy that the accounts of a bank hold: producing and standby energy of every furnace and line, and common
energy. -/
def Bank.energy (b : Bank) : Nat :=
  ((List.finRange 4).map fun f : Furnace => b.furnaces[f].producing + b.furnaces[f].standby).sum +
    ((List.finRange 12).map fun l : Line => b.lines[l].producing + b.lines[l].standby).sum + b.common

/-- The energy in the open pools. -/
def openPools (s : State) : Nat := ((List.finRange 32).map fun c : Chan => s.pools[c].opened).sum

/-- R42, R77: while the open bank's saturated mark is clear, its metered energy is what its accounts and the open pools
hold, and each furnace's pulled mass is the sum of the pulled masses of the lines that it feeds. In STARTING nothing has
been pulled, and every committed entry list has an entry (R165). -/
def BooksBalance (s : State) : Prop :=
  (∀ c : Chan, s.config.channels[c].entries ≠ []) ∧
  (s.phase = .starting →
    (∀ f : Furnace, s.openBank.furnaces[f].pulled = 0) ∧ ∀ l : Line, s.openBank.lines[l].pulled = 0) ∧
  (s.openBank.saturated = false →
    s.openBank.metered = s.openBank.energy + openPools s ∧
    ∀ f : Furnace, s.openBank.furnaces[f].pulled =
      (((List.finRange 12).filter fun l : Line => s.config.lines[l].feeding == f).map fun l =>
        s.openBank.lines[l].pulled).sum)

/-- The energy of the entries of a record with its common energy (R133). -/
def IntervalResult.energy (r : IntervalResult) : Nat :=
  (r.furnaces.map fun e => e.producing + e.standby).sum + (r.lines.map fun e => e.producing + e.standby).sum + r.common

end Sys2Proof.Machine
end

