-- ==== Sys2Proof/Certificates/Slice0/Obligations.lean ====
section
/-! DEFINITION. The statements for the provers. -/

open Sys2Proof Sys2Proof.Machine

/-- For every command and state, the step of a state whose queue has that command in front is exec of the command on the
state with the rest of the queue. (opcode_table.json, 95_what_each_step_holds.md) -/
def Obligations.StepRunsFrontCommand : Prop :=
  ∀ (c : Instr) (rest : List Instr) (s : State), s.pending = c :: rest → step s = exec c { s with pending := rest }

/-- On an empty queue the step puts the first event that is due into the queue and leaves everything else; with none due
it adds one millisecond to the own clock alone, and then no time limit of the part has been reached and no poll is
waiting to start. No request is ever among the due events. The model's choice: log entries 2, 22 and 23. (R35, R111,
R116, R167, R171) -/
def Obligations.IdleStepBringsTheDueEvent : Prop :=
  (∀ s : State, s.pending = [] →
    (∀ c rest, dueEvents s = c :: rest → step s = .next { s with pending := [c] }) ∧
    (dueEvents s = [] → step s = .next { s with clock := s.clock + 1 })) ∧
  (∀ s : State, dueEvents s = [] →
    (∀ sl : Slot,
      (∀ t, s.slots[sl].settleDue = some t → s.clock < t) ∧ (∀ t, s.slots[sl].partialDue = some t → s.clock < t) ∧
      (∀ q, s.slots[sl].poll = some q → s.clock < q.limit) ∧
      (s.slots[sl].poll = none → ∀ q : Position, pollable s (chanAt sl q) = true →
        ∀ t, s.slots[sl].positions[q].nextDue = some t → s.clock < t)) ∧
    (∀ l : Line, ∀ t, s.lines[l].holdDue = some t → s.clock < t) ∧
    (∀ c p t w, s.prover.state = .running c p t w → s.clock < t) ∧
    (∀ p : Port, ∀ got last, s.ports[p].receive = .receiving got last → s.clock < last + 5) ∧
    (∀ r : RegionNo, ∀ h, s.locks[r].hold = some h → s.clock < h.lastRequest + 1000 * s.config.plant.lockTimeout) ∧
    (∀ v, s.save = some v → s.clock < v.accessDue) ∧ s.clock < s.sampleDue ∧
    (s.phase = .running → s.clock < s.secondDue) ∧ s.interval.closing = none ∧
    (∀ e, s.interval.endTime = some e → s.interval.waiting = .none → s.interval.plantTime < e) ∧
    ∀ c : Chan, s.config.channels[c].active = true → s.config.channels[c].source = .port →
      s.channels[c].state = .basing ∨ s.channels[c].state = .live →
      s.interval.plantTime < s.channels[c].lastReading + s.config.channels[c].staleTime) ∧
  ∀ s : State, ∀ c ∈ dueEvents s, c.asRequest = none

/-- For every command and every state exec answers a next state: no command ends in a fault or a refusal.
(opcode_table.json) -/
def Obligations.NoCommandStops : Prop :=
  ∀ (c : Instr) (s : State), ∃ t, exec c s = .next t

/-- For every well-formed request row, reading the payload of its frame gives back the request with every argument, and
exec of the row is the step in which that frame is taken into service and answered. The codings that R178 leaves
open, the octets of a mass, and the row being the taking of its frame are the model's: log entries 5, 9 and 10.
(R173, R176, R178) -/
def Obligations.FrameSpellsItsRequest : Prop :=
  (∀ r : Request, r.wf = true → parse (requestFrame 0 r).code.toNat (requestPayload r) = .ok r) ∧
  ∀ (i : Instr) (p : Port) (tag : Octet) (r : Request) (s : State),
    i.asRequest = some (p, tag, r) → i.wf = true → exec i s = .next (serviceFrame p (requestFrame tag r) s)

/-- A port in HUNTING with no request in service that receives the octets of a request frame of at most 1024 payload
octets, and nothing in between, has taken and answered that frame, with its tag, code and payload as sent.  (R171,
R173, R174, R175) -/
def Obligations.OctetsOfAFrameRunItsRequest : Prop :=
  ∀ (p : Port) (fr : Frame) (s : State) (rest : List Instr),
    s.ports[p].receive = .hunting → s.ports[p].atSpace = false → s.ports[p].service = none →
    fr.payload.length ≤ 1024 →
    s.pending = (requestOctets fr).map (fun o => .octetReceived p o true) ++ rest →
    Host.Core.run Sys2Proof.core (requestOctets fr).length s = .next (serviceFrame p fr { s with pending := rest })

/-- OCTET_RECEIVED: in HUNTING 167 starts a partial frame with the present time and any other octet changes nothing; a
framing fault changes nothing; in RECEIVING the octet joins the partial frame; a declared length above 1024 or a
wrong check discards it without a reply; a good frame is taken if none is in service, is held if one is, and is
discarded if another is held. (R171, R174, R175) -/
def Obligations.OctetReceivedEffects : Prop :=
  ∀ (p : Port) (o : Octet) (s : State), s.ports[p].atSpace = false →
    exec (.octetReceived p o false) s = .next s ∧
    (s.ports[p].receive = .hunting → o = 167 →
      exec (.octetReceived p o true) s = .next (setReceive p (.receiving [o] s.clock) s)) ∧
    (s.ports[p].receive = .hunting → o ≠ 167 → exec (.octetReceived p o true) s = .next s) ∧
    ∀ (got : List Octet) (last : Nat), s.ports[p].receive = .receiving got last → s.clock ≤ last + 5 →
      (progress (got ++ [o]) = .gathering →
        exec (.octetReceived p o true) s = .next (setReceive p (.receiving (got ++ [o]) s.clock) s)) ∧
      (progress (got ++ [o]) = .tooLong → exec (.octetReceived p o true) s = .next (setReceive p .hunting s)) ∧
      (progress (got ++ [o]) = .complete → checkedFrame (got ++ [o]) = none →
        exec (.octetReceived p o true) s = .next (setReceive p .hunting s)) ∧
      ∀ fr, progress (got ++ [o]) = .complete → checkedFrame (got ++ [o]) = some fr →
        (s.ports[p].service = none →
          exec (.octetReceived p o true) s = .next (serviceFrame p fr (setReceive p .hunting s))) ∧
        (s.ports[p].service ≠ none → s.ports[p].held = none →
          exec (.octetReceived p o true) s =
            .next (s.setPort p { s.ports[p] with receive := .hunting, held := some fr })) ∧
        (s.ports[p].service ≠ none → s.ports[p].held ≠ none →
          exec (.octetReceived p o true) s = .next (setReceive p .hunting s))

/-- GAP_EXPIRY discards a partial frame 5 ms after its last octet, and changes nothing before that or in HUNTING;
REPLY_SENT takes the request out of service and takes the held request, if there is one;
RECEIVE_LINE_RETURNS_TO_MARK lets the port receive again. Nothing else changes. The time of the gap's expiry in
milliseconds, an expiry not reached changing nothing, and the mark of a line at space are the model's: log entries
2, 13 and 18. (R171, R172, R175) -/
def Obligations.GapReplyAndMark : Prop :=
  ∀ (p : Port) (s : State),
    (∀ got last, s.ports[p].receive = .receiving got last →
      (last + 5 ≤ s.clock → exec (.gapExpiry p) s = .next (s.setPort p { s.ports[p] with receive := .hunting })) ∧
      (s.clock < last + 5 → exec (.gapExpiry p) s = .next s)) ∧
    (s.ports[p].receive = .hunting → exec (.gapExpiry p) s = .next s) ∧
    (s.ports[p].service ≠ none → s.ports[p].held = none →
      exec (.replySent p) s = .next (s.setPort p { s.ports[p] with service := none })) ∧
    (∀ fr, s.ports[p].service ≠ none → s.ports[p].held = some fr →
      exec (.replySent p) s =
        .next (serviceFrame p fr (s.setPort p { s.ports[p] with service := none, held := none }))) ∧
    exec (.receiveLineReturnsToMark p) s = .next (s.setPort p { s.ports[p] with atSpace := false })

/-- A request whose code is no request's command code is answered BAD_COMMAND with the code, in STARTING as in RUNNING.
In RUNNING a payload of a wrong length is answered BAD_LENGTH with the length received and the length required, or
the smallest allowed: for a request of fixed length; for a METER_POST of other than 8 octets without a tag and 9
with one; for a STAGE_WRITE without its region or field number, or whose value has another length than its field.
Nothing but the port's service record changes. The octets of each argument, 6 for a mass, and the smallest lengths 8
of METER_POST and 3 of STAGE_WRITE are the model's: log entries 5 and 9. (R176, R177, R178) -/
def Obligations.BadCommandAndBadLength : Prop :=
  ∀ (p : Port) (tag code : Octet) (payload : List Octet) (s : State),
    ((∀ r : Request, requestCode r ≠ code.toNat) →
      exec (.badCommand p tag code payload) s =
        .next (s.setPort p { s.ports[p] with
          service := some { request := ⟨tag, code, payload⟩, reply := ⟨tag, .badCommand, [code]⟩ } })) ∧
    (s.phase = .running →
      let refused (required : Nat) : Prop :=
        serviceFrame p ⟨tag, code, payload⟩ s =
          s.setPort p { s.ports[p] with
            service := some { request := ⟨tag, code, payload⟩,
                              reply := ⟨tag, .badLength, octets 2 payload.length ++ octets 2 required⟩ } }
      let misfits : FieldForm → List Octet → Prop
        | .flag, value => value.length ≠ 1
        | .number w _ _, value => value.length ≠ w
        | .trim, value => value.length ≠ 2
        | .ranks, value => value.length ≠ 4
        | .entries, value => value = [] ∨ ∃ n items, value = n :: items ∧ n.toNat ≤ 6 ∧ items.length ≠ 3 * n.toNat
        | .text, value => value = [] ∨ ∃ n cs, value = n :: cs ∧ n.toNat ≤ 16 ∧ cs.length ≠ n.toNat
      (∀ ws, fixedSizes code.toNat = some ws → payload.length ≠ ws.sum → refused ws.sum) ∧
      (code = 16 → payload.length < 8 ∨ 9 < payload.length ∨ (payload.length = 8 ∧ payload[7]? = some 1) ∨
        (payload.length = 9 ∧ payload[7]? = some 0) → refused 8) ∧
      (code = 98 → payload = [] ∨ (∃ region, payload = [region] ∧ region.toNat ≤ 52) → refused 3) ∧
      ∀ (r : RegionNo) (field : Octet) (form : FieldForm) (value : List Octet), code = 98 →
        payload = BitVec.ofNat 8 r.val :: field :: value → fieldForm (regionOf r).kind field.toNat = some form →
        misfits form value → refused 3)

/-- For every request row but STATUS, in STARTING exec answers STARTING with no payload, and nothing but the port's
service record changes. (R176, R187) -/
def Obligations.StartingRefusesAllButStatus : Prop :=
  ∀ (i : Instr) (p : Port) (tag : Octet) (r : Request) (s : State),
    i.asRequest = some (p, tag, r) → r ≠ .status → s.phase = .starting →
    exec i s = .next (replied p tag r .starting [] s)

/-- HARDWARE_RESET: the part is in STARTING with the blank configuration; channels, slots, pools, banks, furnaces,
lines, interval engine, ring, cursors, totals, prover, locks, ports, alerts and save hold the values the chapters
give for reset; the image, the slots' sense levels and the queue stay. The own clock at 0, the entry list and trim
of a blank channel, the values of a prove record that has no run, the numbers of polls and the queue being kept, and
the mark of a line at space being cleared are the model's choices: log entries 2, 3, 4, 6, 11 and 18. (R2, R25, R40,
R63, R88, R110, R136, R141, R147, R157, R170, R187) -/
def Obligations.HardwareResetValues : Prop :=
  ∀ s : State, ∃ t, exec .hardwareReset s = .next t ∧
    t.phase = .starting ∧ t.clock = 0 ∧ t.config = blankConfiguration ∧ t.image = s.image ∧ t.pending = s.pending ∧
    (∀ c : Chan, t.channels[c] =
      { state := .inactive, base := none, lastReading := 0, carry := 0, underProve := false,
        prove := { outcome := .none, deviation := 0, channelUnits := 0, referenceUnits := 0, endTime := 0 } }) ∧
    (∀ sl : Slot, t.slots[sl].state = .sensing ∧ t.slots[sl].sense = s.slots[sl].sense ∧
      t.slots[sl].settleDue = some 500 ∧ t.slots[sl].partialDue = some 2000 ∧ t.slots[sl].poll = none ∧
      t.slots[sl].polls = s.slots[sl].polls ∧
      ∀ q : Position, t.slots[sl].positions[q] = { counter := 0, nextDue := none, failed := 0 }) ∧
    (∀ c : Chan, t.pools[c] = { opened := 0, closing := 0 }) ∧
    (∀ a : Account, t.openBank.get a = 0 ∧ t.closingBank.get a = 0) ∧
    t.openBank.saturated = false ∧ t.closingBank.saturated = false ∧
    (∀ f : Furnace, t.furnaces[f] =
      { state := none, lastSerial := 0, lastCullet := 0, queue := [], inventoryMass := 0, inventoryCullet := 0 }) ∧
    (∀ l : Line, t.lines[l] =
      { state := none, current := none, previous := none, latched := none, resume := .producing, holdDue := none }) ∧
    t.interval =
      { plantTime := 0, timeSet := false, length := 60, pendingLength := none, number := 1, startTime := 0,
        endTime := some 3600, cleared := false, first := true, closing := none, waiting := .none } ∧
    t.ring = [] ∧ (∀ p : Port, t.cursors[p] = { number := 1, gap := false }) ∧ t.totals = Totals.zeroed 1 0 ∧
    t.prover = { state := .idle, channelUnits := 0, referenceUnits := 0 } ∧
    (∀ r : RegionNo, t.locks[r] = { hold := none, waitList := [] }) ∧
    (∀ p : Port, t.portLocks[p] = { held := none, waited := none } ∧
      t.ports[p] = { receive := .hunting, service := none, held := none, attention := false, atSpace := false } ∧
      t.alerts[p].mask = 0 ∧ ∀ k : Fin 19, t.alerts[p].pending[k] = none) ∧
    t.loadFailed = false ∧ t.save = none

/-- In STARTING, CONFIG_LOAD_DONE takes the part to RUNNING. With an image that is not good the configuration stays and
CONFIG_LOAD_FAIL is raised on every port; with a good one its configuration stands whole, each enabled furnace and
line is in HOLD, the furnace with its opening record, each furnace that is not enabled has its state absent, last
serial 0, its opening cullet as last cullet permille and an empty queue, the interval length is in force, each
active channel is activated against its slot by the table of R4, a mismatch and nothing else raising
MODULE_MISMATCH, and a pollable one is due at once; nothing else changes. The second from which plant time counts
and what makes an image good beyond R186 are the model's: log entries 2 and 8. (R4, R29, R35, R63, R73, R110, R186,
R187, R188) -/
def Obligations.ConfigLoadDoneStartsThePart : Prop :=
  ∀ (answered : Bool) (s : State), s.phase = .starting →
    let started : State := { s with phase := .running, secondDue := s.clock + 1000 }
    (s.image.good answered = false →
      exec (.configLoadDone answered) s = .next (raise .configLoadFail none { started with loadFailed := true })) ∧
    (s.image.good answered = true →
      ∃ t, exec (.configLoadDone answered) s = .next t ∧
        { t with config := s.config, channels := s.channels, slots := s.slots, furnaces := s.furnaces,
                 lines := s.lines, interval := s.interval, alerts := s.alerts, ports := s.ports } = started ∧
        t.config = s.image.body.configuration ∧
        (∀ f : Furnace,
          let g := t.config.furnaces[f]
          let k := g.openingMass * g.openingCullet / 1000
          (g.openingMass, g.openingCullet) = s.image.body.inventories[f] ∧
          (g.enabled = false →
            t.furnaces[f] =
              { state := none, lastSerial := 0, lastCullet := g.openingCullet, queue := [], inventoryMass := 0,
                inventoryCullet := 0 }) ∧
          (g.enabled = true →
            t.furnaces[f] =
              { state := some .hold, lastSerial := 0, lastCullet := g.openingCullet,
                queue := if g.openingMass = 0 then [] else
                  [{ serial := 0, arrival := s.interval.plantTime, originalMass := g.openingMass, originalCullet := k,
                     remainingMass := g.openingMass, remainingCullet := k }],
                inventoryMass := g.openingMass, inventoryCullet := k })) ∧
        (∀ l : Line, t.lines[l] =
          { state := if t.config.lines[l].enabled then some .hold else none, current := none, previous := none,
            latched := none, resume := .producing, holdDue := none }) ∧
        t.interval =
          { s.interval with
            length := t.config.plant.intervalLength,
            endTime := openEnd t.config.plant.intervalLength s.interval.startTime } ∧
        RaisedJust (fun src obj => src = .moduleMismatch ∧ ∃ c : Chan, obj = some c.val ∧
          t.config.channels[c].active = true ∧ t.channels[c].state = .offline .mismatch) s t ∧
        (∀ sl : Slot, { t.slots[sl] with positions := s.slots[sl].positions } = s.slots[sl]) ∧
        ∀ c : Chan,
          (t.config.channels[c].active = false →
            t.channels[c] = s.channels[c] ∧ t.position c = s.position c) ∧
          (t.config.channels[c].active = true →
            (∃ st base, ActivatesTo t.config.channels[c] s.slots[slotOf c].state (s.position c).counter st base ∧
              t.channels[c] =
                { s.channels[c] with state := st, base := base, lastReading := s.interval.plantTime }) ∧
            t.position c = renewed t c (s.position c)))

/-- In RUNNING with no save in flight SAVE is answered OK and the save in flight holds the committed configuration with
each furnace's inventory: the present mass and its cullet permille, the last cullet permille for an empty enabled
furnace, the committed opening values for a disabled one. With a save in flight it is refused with BUSY and changes
nothing. (R85, R189) -/
def Obligations.SaveIsTakenOnce : Prop :=
  ∀ (p : Port) (tag : Octet) (s : State), s.phase = .running →
    (s.save = none →
      ∃ v, exec (.save p tag) s = .next (replied p tag .save .ok [] { s with save := some v }) ∧
        v.written = 0 ∧ v.accessDue = s.clock + 100 ∧ v.snapshot.config = s.config ∧
        ∀ f : Furnace, v.snapshot.inventories[f] =
          if s.config.furnaces[f].enabled then
            if 0 < s.furnaces[f].inventoryMass then
              (s.furnaces[f].inventoryMass, s.furnaces[f].inventoryCullet * 1000 / s.furnaces[f].inventoryMass)
            else (0, s.furnaces[f].lastCullet)
          else (s.config.furnaces[f].openingMass, s.config.furnaces[f].openingCullet)) ∧
    (s.save ≠ none → exec (.save p tag) s = .next (replied p tag .save .busy [] s))

/-- Each acknowledged write of a save puts its part of the snapshot into the image, the first clearing the stored format
number; the last one writes format number 1, clears the save and ends the condition of CONFIG_LOAD_FAIL.
SAVE_ACCESS_TIMEOUT 100 ms after the access began ends the save, leaves format number 0 and raises SAVE_FAIL on
every port; before that it changes nothing. That the last write is the sixtieth, that a write has its effect at its
acknowledgement, also one taken past the 100 ms of its access while SAVE_ACCESS_TIMEOUT has not been taken, that
format number 0 stands after any failed access, and the clock in milliseconds are the model's choices: log entries
2, 8, 13 and 19. (R188, R189, R190) -/
def Obligations.SaveWritesAndTimeouts : Prop :=
  ∀ (s : State) (v : Save), s.save = some v →
    (v.written < 59 →
      exec .saveWriteAcknowledged s =
        .next { s with
          image := writeImage v.snapshot v.written s.image,
          save := some { v with written := v.written + 1, accessDue := s.clock + 100 } }) ∧
    (v.written = 0 → ∀ t, exec .saveWriteAcknowledged s = .next t → t.image.format = 0) ∧
    (v.written = 59 →
      exec .saveWriteAcknowledged s =
        .next { s with image := { s.image with format := 1 }, save := none, loadFailed := false }) ∧
    (s.clock < v.accessDue → exec .saveAccessTimeout s = .next s) ∧
    (v.accessDue ≤ s.clock →
      exec .saveAccessTimeout s =
        .next (raise .saveFail none { s with save := none, image := { s.image with format := 0 } }))

/-- From a save none of whose writes is acknowledged, sixty acknowledgements leave an image of format number 1 that
holds the snapshot with its check, no save in flight and no condition of CONFIG_LOAD_FAIL; nothing else but the time
limit of the access changes. The sixty writes, the octets under the check, and an acknowledgement being taken
whatever the own clock shows are the model's: log entries 8 and 19. (R186, R189, R190) -/
def Obligations.CompletedSaveStoresItsSnapshot : Prop :=
  ∀ (s : State) (v : Save) (rest : List Instr), s.save = some v → v.written = 0 →
    s.pending = List.replicate 60 .saveWriteAcknowledged ++ rest →
    Host.Core.run Sys2Proof.core 60 s =
      .next { s with
        pending := rest, save := none, loadFailed := false,
        image := { format := 1, body := v.snapshot, crc := crc32 (imageOctets 1 v.snapshot) } }

/-- In RUNNING, ALERT_READ returns the requesting port's pending source of lowest level and, within it, lowest code,
with its object set and the count of sources still pending; an event-kind source leaves the set, a condition-kind
one stays; with nothing pending the source is absent and the count 0. How an absent source is coded is the model's:
log entry 5. (R182, R183) -/
def Obligations.AlertReadTakesTheHighest : Prop :=
  ∀ (p : Port) (tag : Octet) (s : State), s.phase = .running →
    ((∀ j : Fin 19, s.alerts[p].pending[j] = none) →
      exec (.alertRead p tag) s = .next (replied p tag .alertRead .ok [0, 0, 0] s)) ∧
    ∀ (k : Fin 19) (set : List Nat), s.alerts[p].pending[k] = some set →
      (∀ j : Fin 19, s.alerts[p].pending[j] ≠ none → levelOf k < levelOf j ∨ (levelOf k = levelOf j ∧ k ≤ j)) →
      let n := (List.finRange 19).countP fun j => (s.alerts[p].pending[j]).isSome
      (isCondition k = true →
        exec (.alertRead p tag) s =
          .next (replied p tag .alertRead .ok
            ([1] ++ octets 1 k.val ++ (octets 1 set.length ++ set.flatMap (octets 1)) ++ octets 1 n) s)) ∧
      (isCondition k = false →
        exec (.alertRead p tag) s =
          .next (replied p tag .alertRead .ok
            ([1] ++ octets 1 k.val ++ (octets 1 set.length ++ set.flatMap (octets 1)) ++ octets 1 (n - 1))
            (s.setAlerts p { s.alerts[p] with pending := s.alerts[p].pending.set k none })))

/-- In RUNNING, ALERT_CLEAR of a code 0 to 18 removes the source from the port's set, and latches a condition-kind
source that was pending again, with just the objects still in its condition, in ascending order (log entry 26): for
MODULE_REJECTED (2) the slots in REJECTED, for MODULE_MISMATCH (3) the channels OFFLINE with cause MISMATCH, for
CHANNEL_STALE (4) the channels in STALE, for CHANNEL_OFFLINE (5) the channels OFFLINE with cause SLOT_NOT_READY;
with no such object the source stays removed. CONFIG_LOAD_FAIL (0) is latched again with no object exactly while its
condition holds: the mark of a failed load is set by CONFIG_LOAD_DONE of an image that is not good in STARTING, is
cleared by HARDWARE_RESET and by the last acknowledgement of a save, and no other command changes it. An event-kind
source stays removed. A code above 18 is refused with RANGE. ALERT_MASK of 0 to 15 sets the mask and answers the one
before; above 15 it is refused with RANGE. The attention output follows in the same step, and nothing else changes.
That a source that is not pending latches nothing although its condition holds is read from R184: log entry 21. That
the last write is the sixtieth is the model's: log entry 8. (R24, R31, R180, R182, R184, R185, R187, R188, R190) -/
def Obligations.AlertClearAndMask : Prop :=
  (∀ (p : Port) (tag : Octet) (s : State), s.phase = .running →
    let channelIn (n : Nat) (st : ChannelState) : Prop := ∃ c : Chan, c.val = n ∧ s.channels[c].state = st
    let objectIn (k : Fin 19) (n : Nat) : Prop :=
      (k = 2 ∧ ∃ sl : Slot, sl.val = n ∧ ∃ why, s.slots[sl].state = .rejected why) ∨
      (k = 3 ∧ channelIn n (.offline .mismatch)) ∨ (k = 4 ∧ channelIn n .stale) ∨
      (k = 5 ∧ channelIn n (.offline .slotNotReady))
    (∀ k : Fin 19,
      let held := if s.alerts[p].pending[k] ≠ none ∧ isCondition k then conditionObjects s k else none
      exec (.alertClear p tag k.val) s =
        .next (replied p tag (.alertClear k.val) .ok
          (octets 1 (held.getD []).length ++ (held.getD []).flatMap (octets 1))
          (s.setAlerts p { s.alerts[p] with pending := s.alerts[p].pending.set k held })) ∧
      (held = none ↔
        s.alerts[p].pending[k] = none ∨ ¬ ((k = 0 ∧ s.loadFailed = true) ∨ ∃ n, objectIn k n)) ∧
      ∀ set, held = some set → set.Pairwise (· < ·) ∧ ∀ n, n ∈ set ↔ objectIn k n) ∧
    (∀ n, 18 < n → exec (.alertClear p tag n) s = .next (replied p tag (.alertClear n) .range [] s)) ∧
    (∀ m, m ≤ 15 →
      exec (.alertMask p tag m) s =
        .next (replied p tag (.alertMask m) .ok (octets 1 s.alerts[p].mask.toNat)
          (s.setAlerts p { s.alerts[p] with mask := BitVec.ofNat 4 m }))) ∧
    (∀ m, 15 < m → exec (.alertMask p tag m) s = .next (replied p tag (.alertMask m) .range [] s)) ∧
    ∀ (k : Fin 19), isCondition k = true → k ≠ 0 → ∀ n,
      (n ∈ (conditionObjects s k).getD [] ↔ n < 32 ∧ inCondition s k n = true) ∧
      (n ∈ (conditionObjects s k).getD [] ↔ objectIn k n)) ∧
  ∀ (c : Instr) (s t : State), exec c s = .next t →
    (t.loadFailed = true ↔
      (s.phase = .starting ∧ ∃ answered, c = .configLoadDone answered ∧ s.image.good answered = false) ∨
        (s.loadFailed = true ∧ c ≠ .hardwareReset ∧
          ¬ (c = .saveWriteAcknowledged ∧ ∃ v, s.save = some v ∧ 59 ≤ v.written)))

/-- Raising a source other than LOCK_GRANTED and LOCK_EXPIRED latches it in the pending set of every port; these two are
latched in the pending set of the one port concerned. The object joins the object set once, in ascending order (how
the model holds a set: log entry 26), every other source and every mask are as they were, the attention outputs
follow, and every other field of the state is unchanged. (R180, R182) -/
def Obligations.RaiseLatchesOnEveryPort : Prop :=
  let latches (k : Fin 19) (obj : Option Nat) (a b : AlertRecord) : Prop :=
    b.mask = a.mask ∧ (∀ j : Fin 19, j ≠ k → b.pending[j] = a.pending[j]) ∧
    ∃ set, b.pending[k] = some set ∧ (∀ n, n ∈ set ↔ obj = some n ∨ n ∈ (a.pending[k]).getD []) ∧
      (((a.pending[k]).getD []).Pairwise (· < ·) → set.Pairwise (· < ·))
  let only (s t : State) : Prop :=
    { t with alerts := s.alerts, ports := s.ports } = s ∧
    ∀ p : Port, t.ports[p] =
      { s.ports[p] with
        attention := if t.alerts[p] = s.alerts[p] then t.ports[p].attention else t.alerts[p].wantsAttention }
  (∀ (src : AlertSource) (obj : Option Nat) (s : State), src ≠ .lockGranted → src ≠ .lockExpired →
    let t := raise src obj s
    only s t ∧ ∀ p : Port, latches src.code obj s.alerts[p] t.alerts[p] ∧
      t.ports[p].attention = t.alerts[p].wantsAttention) ∧
  (∀ (src : AlertSource) (obj : Option Nat) (s : State) (p : Port), src = .lockGranted ∨ src = .lockExpired →
    let t := raiseTo p src obj s
    only s t ∧ latches src.code obj s.alerts[p] t.alerts[p] ∧
      t.ports[p].attention = t.alerts[p].wantsAttention ∧
      ∀ q : Port, q ≠ p → t.alerts[q] = s.alerts[q] ∧ t.ports[q] = s.ports[q]) ∧
  AlertSource.lockGranted.code = 17 ∧ AlertSource.lockExpired.code = 18

/-- In RUNNING, for a PORT channel that is not INACTIVE, with a tag 0 to 16 or none (present where the mode is TAGGED):
a TOTAL reading below the modulus that finds no base sets it and books nothing; one that finds a base is classed by
R14 against the limit of R12; a DELTA reading of at most 2^40 - 1 is held to the limit. The channel goes to LIVE at
the present plant time, the outcome's alert is raised, the increment is handed on, and the reply carries outcome,
increment, energy and LIVE. The outcome codes and the octets of the reply are the model's: log entry 5. (R11, R12,
R13, R14, R15, R22, R178) -/
def Obligations.MeterPostIsTaken : Prop :=
  ∀ (p : Port) (fr : Octet) (c : Chan) (v : Nat) (tag : Option Nat) (s : State),
    let g := s.config.channels[c]
    let r := s.channels[c]
    let now := s.interval.plantTime
    let limit := g.rateCeiling * max 1 (min (now - r.lastReading) 86400)
    s.phase = .running → (∀ n, tag = some n → n ≤ 16) → r.state ≠ .inactive → g.source = .port →
    (g.mode = .tagged → tag ≠ none) →
    (g.kind = .total → v < g.modulus → r.base = none →
      exec (.meterPost p fr c.val v tag) s =
        .next (replied p fr (.meterPost c.val v tag) .ok (octets 1 0 ++ octets 6 0 ++ octets 8 0 ++ octets 1 3)
          (s.setChannel c { r with state := .live, base := some v, lastReading := now }))) ∧
    (g.kind = .total → v < g.modulus → ∀ b o u b', r.base = some b → ClassedAs g.modulus limit b v o u b' →
      let h := handOn c u (tag.bind consumerOf)
        (raiseReading c o (s.setChannel c { r with state := .live, base := some b', lastReading := now }))
      exec (.meterPost p fr c.val v tag) s =
        .next (replied p fr (.meterPost c.val v tag) .ok
          (octets 1 o.code ++ octets 6 u ++ octets 8 h.2 ++ octets 1 3) h.1)) ∧
    (g.kind = .delta → v ≤ 2 ^ 40 - 1 → ∀ o u,
      (v ≤ limit ∧ o = .booked ∧ u = v ∨ limit < v ∧ o = .clamped ∧ u = limit) →
      let h := handOn c u (tag.bind consumerOf)
        (raiseReading c o (s.setChannel c { r with state := .live, lastReading := now }))
      exec (.meterPost p fr c.val v tag) s =
        .next (replied p fr (.meterPost c.val v tag) .ok
          (octets 1 o.code ++ octets 6 u ++ octets 8 h.2 ++ octets 1 3) h.1))

/-- In RUNNING: a channel above 31 or a tag above 16 is refused with RANGE, an INACTIVE channel with NOT_CONFIGURED, a
SLOT channel with WRONG_SOURCE, a TAGGED channel without a tag with TAG_REQUIRED, a value out of range with RANGE,
each where no check before it fails; nothing but the port's service record changes. (R22) -/
def Obligations.MeterPostRefusals : Prop :=
  ∀ (p : Port) (fr : Octet) (v : Nat) (tag : Option Nat) (s : State), s.phase = .running →
    (∀ n, 31 < n → exec (.meterPost p fr n v tag) s = .next (replied p fr (.meterPost n v tag) .range [] s)) ∧
    ∀ c : Chan,
      let g := s.config.channels[c]
      let refused (st : Status) : Prop :=
        exec (.meterPost p fr c.val v tag) s = .next (replied p fr (.meterPost c.val v tag) st [] s)
      ((∃ n, tag = some n ∧ 16 < n) → refused .range) ∧
      ((∀ n, tag = some n → n ≤ 16) →
        (s.channels[c].state = .inactive → refused .notConfigured) ∧
        (s.channels[c].state ≠ .inactive →
          (g.source = .slot → refused .wrongSource) ∧
          (g.source = .port →
            (g.mode = .tagged → tag = none → refused .tagRequired) ∧
            ((g.mode = .tagged → tag ≠ none) →
              (g.kind = .total → g.modulus ≤ v → refused .range) ∧
              (g.kind = .delta → 2 ^ 40 - 1 < v → refused .range)))))

/-- Handing on an increment above 0 adds it to the channel units of a run on the channel, converts it with the selected
set's factor and trim and the channel's trim, for trims of -500 to 500, and hands E = floor((P + carry) / 10^11) to
the attribution unit; E times 10^11 plus the new carry is P plus the old carry, and the new carry is below 10^11. An
increment of 0 changes nothing. (R16, R19, R150) -/
def Obligations.ConversionKeepsEveryCarry : Prop :=
  ∀ (c : Chan) (u : Nat) (tag : Option Consumer) (s : State),
    let g := s.config.channels[c]
    let k := s.config.carriers[g.carrier.index]
    k.trim g.set ≥ -500 → k.trim g.set ≤ 500 → g.trim ≥ -500 → g.trim ≤ 500 →
    handOn c 0 tag s = (s, 0) ∧
    (0 < u → ∃ (e carry : Nat) (s' : State),
      (e * 10 ^ 11 + carry : Int) =
        u * k.factor g.set * (10000 + k.trim g.set) * (10000 + g.trim) + s.channels[c].carry ∧
      carry < 10 ^ 11 ∧
      (s.channels[c].underProve = false → s' = s) ∧
      (s.channels[c].underProve = true →
        s' = s.setProver { s.prover with channelUnits := min (s.prover.channelUnits + u) (2 ^ 64 - 1) }) ∧
      handOn c u tag s = (placeIncrement c e tag (s'.setChannel c { s.channels[c] with carry := carry }), e))

/-- In RUNNING, CHANNEL_REBASE sends a TOTAL channel in LIVE or STALE to BASING without a base at the present plant
time, aborting a run on it; other states are refused with WRONG_STATE, an INACTIVE channel with NOT_CONFIGURED.
STALE_TIME_EXPIRY sends an active PORT channel in BASING or LIVE whose stale time has run out to STALE, aborting a
run on it, and raises CHANNEL_STALE. An aborted run leaves outcome ABORTED, deviation 0 and the sums in the prove
record, the prover IDLE, and PROVE_DONE pending. The state that WRONG_STATE carries, without an offline cause, is
the model's: log entry 5. (R9, R17, R152, R154) -/
def Obligations.RebaseAndStaleness : Prop :=
  ∀ (c : Chan) (s : State),
    let g := s.config.channels[c]
    let st := s.channels[c].state
    (∀ (p : Port) (tag : Octet), s.phase = .running →
      (st = .inactive →
        exec (.channelRebase p tag c.val) s = .next (replied p tag (.channelRebase c.val) .notConfigured [] s)) ∧
      (g.isTotal = true → st = .live ∨ st = .stale →
        ∃ a, RunAborted c s a ∧
          exec (.channelRebase p tag c.val) s =
            .next (replied p tag (.channelRebase c.val) .ok []
              (a.setChannel c
                { released s c with state := .basing, base := none, lastReading := s.interval.plantTime }))) ∧
      (st ≠ .inactive → (g.isTotal = false ∨ (st ≠ .live ∧ st ≠ .stale)) →
        exec (.channelRebase p tag c.val) s =
          .next (replied p tag (.channelRebase c.val) .wrongState (octets 1 st.code) s))) ∧
    (g.active = true → g.source = .port → st = .basing ∨ st = .live →
      s.channels[c].lastReading + g.staleTime ≤ s.interval.plantTime →
      ∃ a, RunAborted c s a ∧
        exec (.staleTimeExpiry c) s =
          .next (raise .channelStale (some c.val) (a.setChannel c { released s c with state := .stale })))

/-- In RUNNING, SET_SWITCH to a set whose factor is not 0, with no CHANNEL region of the carrier held by another port,
gives every active channel of the carrier that set and changes no other field of the configuration; the reply
carries how many moved. A factor of 0 is refused with REJECTED and SET_UNSET; a region held by another port with
LOCKED naming the lowest such channel and its holder. A carrier above 3 or a set above 1 is refused with RANGE.
Reason 6 as the number of SET_UNSET, and a REJECTED reply with its reason alone, are the model's: log entries 1 and
5. (R21, R169) -/
def Obligations.SetSwitchMovesTheCarrier : Prop :=
  ∀ (p : Port) (tag : Octet) (k : Carrier) (x : SetName) (s : State), s.phase = .running →
    (∀ n m, 3 < n ∨ 1 < m → exec (.setSwitch p tag n m) s = .next (replied p tag (.setSwitch n m) .range [] s)) ∧
    ((s.config.carriers[k.index]).factor x = 0 →
      exec (.setSwitch p tag k.code x.code) s =
        .next (replied p tag (.setSwitch k.code x.code) .rejected (octets 1 6) s)) ∧
    ((s.config.carriers[k.index]).factor x ≠ 0 →
      (∀ (c : Chan) (h : Hold), s.config.channels[c].carrier = k → s.locks[channelRegion c].hold = some h →
        h.port = p) →
      ∃ g : Configuration,
        { g with channels := s.config.channels } = s.config ∧
        (∀ c : Chan, g.channels[c] =
          if s.config.channels[c].active ∧ s.config.channels[c].carrier = k then { s.config.channels[c] with set := x }
          else s.config.channels[c]) ∧
        exec (.setSwitch p tag k.code x.code) s =
          .next (replied p tag (.setSwitch k.code x.code) .ok
            (octets 1 ((List.finRange 32).countP fun c => g.channels[c].set != s.config.channels[c].set))
            (s.setConfig g))) ∧
    ∀ (c : Chan) (h : Hold), (s.config.carriers[k.index]).factor x ≠ 0 → s.config.channels[c].carrier = k →
      s.locks[channelRegion c].hold = some h → h.port ≠ p →
      (∀ (c' : Chan) (h' : Hold), c' < c → s.config.channels[c'].carrier = k →
        s.locks[channelRegion c'].hold = some h' → h'.port = p) →
      exec (.setSwitch p tag k.code x.code) s =
        .next (replied p tag (.setSwitch k.code x.code) .locked (octets 1 c.val ++ octets 1 h.port.val) s)

/-- PRESENCE_CHANGE to other levels sends the slot to SENSING with both timers restarted; from READY the poll is
abandoned, the counters keep their values, the next polls and failed polls are cleared, and each active SLOT channel
of the slot goes to OFFLINE, cause SLOT_NOT_READY, its base, last reading time and carry kept, with CHANNEL_OFFLINE
raised for those that were BASING, LIVE or STALE and for no other. A run on such a channel is aborted: outcome
ABORTED, deviation 0, the prover IDLE with its sums, PROVE_DONE raised. No other channel and nothing else changes.
CODE_LINE_CHANGE to other levels follows the lines and restarts the settle timer in SENSING alone. (R7, R26, R30,
R152, R154) -/
def Obligations.LineChangesRestartSensing : Prop :=
  ∀ (sl : Slot) (a b : Bool) (s : State),
    let r := s.slots[sl]
    let sensing : SlotRecord :=
      { r with state := .sensing, sense := { r.sense with a := a, b := b }, settleDue := some (s.clock + 500),
               partialDue := some (s.clock + 2000) }
    let lost (c : Chan) : Prop := slotOf c = sl ∧ s.config.channels[c].active = true ∧
      s.config.channels[c].source = .slot ∧ s.channels[c].state ≠ .inactive
    ((r.sense.a ≠ a ∨ r.sense.b ≠ b) →
      (r.state.module = none → exec (.presenceChange sl a b) s = .next (s.setSlot sl sensing)) ∧
      (r.state.module ≠ none →
        ∃ t, exec (.presenceChange sl a b) s = .next t ∧
          { t with slots := s.slots, channels := s.channels, prover := s.prover, alerts := s.alerts,
                   ports := s.ports } = s ∧
          { t.slots[sl] with positions := r.positions } = { sensing with poll := none } ∧
          (∀ q : Position, t.slots[sl].positions[q] = { r.positions[q] with nextDue := none, failed := 0 }) ∧
          (∀ sl' : Slot, sl' ≠ sl → t.slots[sl'] = s.slots[sl']) ∧
          (∀ c : Chan,
            (lost c → t.channels[c] = { released s c with state := .offline .slotNotReady } ∧
              (proverOn s c = true → t.prover = { s.prover with state := .idle })) ∧
            (¬ lost c → t.channels[c] = s.channels[c])) ∧
          ((∀ c : Chan, lost c → proverOn s c = false) → t.prover = s.prover) ∧
          RaisedJust (fun src obj => ∃ c : Chan, lost c ∧ obj = some c.val ∧
            ((src = .channelOffline ∧ s.channels[c].state.takesReadings = true) ∨
              (src = .proveDone ∧ proverOn s c = true))) s t)) ∧
    ∀ k1 k2 : Bool, (r.sense.k1 ≠ k1 ∨ r.sense.k2 ≠ k2) →
      exec (.codeLineChange sl k1 k2) s =
        .next (s.setSlot sl { r with
          sense := { r.sense with k1 := k1, k2 := k2 },
          settleDue := if r.state = .sensing then some (s.clock + 500) else r.settleDue })

/-- SETTLE_TIMER_EXPIRY of a SENSING slot whose settle timer has run out: both presence lines asserted give READY with
PULSE4, PULSE4F or SERIAL4 by the code lines, or REJECTED, UNRECOGNISED, with both grounded; none asserted gives
EMPTY; one asserted leaves it in SENSING while the partial timer runs and gives REJECTED, PARTIAL, after it.
Entering READY: a pulse module's counters are 0; each active OFFLINE SLOT channel goes to LIVE with base 0 at the
present plant time (pulse), to LIVE with its base kept or to BASING without one (serial), or stays OFFLINE with
cause MISMATCH and MODULE_MISMATCH raised where the module is of the wrong type; a serial module's positions have no
failed polls, and the pollable ones are due now. Other channels are unchanged. PARTIAL_TIMER_EXPIRY with one line
asserted and the settle timer stopped gives REJECTED, PARTIAL; otherwise the partial timer stops alone. A rejection
raises MODULE_REJECTED, and nothing else is raised. An expiry of a timer that has not run out changes nothing. The
clock in milliseconds, an expiry not reached, and the partial timer with both or neither line asserted are the
model's: log entries 2, 13 and 25. (R8, R24, R27, R28, R29, R31) -/
def Obligations.SettlingDecodesTheLines : Prop :=
  ∀ (sl : Slot) (s : State), s.slots[sl].state = .sensing →
    let r := s.slots[sl]
    (∀ due, r.settleDue = some due → s.clock < due → exec (.settleTimerExpiry sl) s = .next s) ∧
    (∀ due, r.settleDue = some due → due ≤ s.clock →
      ∃ t, exec (.settleTimerExpiry sl) s = .next t ∧
        { t with slots := s.slots, channels := s.channels, alerts := s.alerts, ports := s.ports } = s ∧
        (∀ sl' : Slot, sl' ≠ sl → t.slots[sl'] = s.slots[sl']) ∧
        { t.slots[sl] with state := r.state, partialDue := r.partialDue, positions := r.positions } =
          { r with settleDue := none } ∧
        t.slots[sl].state =
          (match r.sense with
            | ⟨true, true, false, false⟩ => .ready .pulse4
            | ⟨true, true, false, true⟩ => .ready .pulse4f
            | ⟨true, true, true, false⟩ => .ready .serial4
            | ⟨true, true, true, true⟩ => .rejected .unrecognised
            | ⟨false, false, _, _⟩ => .empty
            | _ => if r.partialDue = none then .rejected .partly else .sensing) ∧
        t.slots[sl].partialDue = (if t.slots[sl].state = .sensing then r.partialDue else none) ∧
        ((∀ m, t.slots[sl].state ≠ .ready m) → t.channels = s.channels ∧ t.slots[sl].positions = r.positions) ∧
        (∀ m, t.slots[sl].state = .ready m →
          (∀ q : Position, t.slots[sl].positions[q] =
            if m = .serial4 then
              { r.positions[q] with
                nextDue := if pollable t (chanAt sl q) then some s.clock else none, failed := 0 }
            else { r.positions[q] with counter := 0, nextDue := none }) ∧
          ∀ c : Chan,
            let g := s.config.channels[c]
            let x := s.channels[c]
            let follows := slotOf c = sl ∧ g.active = true ∧ g.source = .slot ∧ ∃ why, x.state = .offline why
            (¬ follows → t.channels[c] = x) ∧
            (follows → g.expected = .pulse → m ≠ .serial4 →
              t.channels[c] = { x with state := .live, base := some 0, lastReading := s.interval.plantTime }) ∧
            (follows → g.expected = .serial → m = .serial4 →
              t.channels[c] = { x with state := if x.base = none then .basing else .live }) ∧
            (follows → (g.expected = .pulse ↔ m = .serial4) →
              t.channels[c] = { x with state := .offline .mismatch })) ∧
        RaisedJust (fun src obj =>
          (src = .moduleRejected ∧ obj = some sl.val ∧ ∃ why, t.slots[sl].state = .rejected why) ∨
          (src = .moduleMismatch ∧ ∃ c : Chan, obj = some c.val ∧ slotOf c = sl ∧
            s.config.channels[c].active = true ∧ s.config.channels[c].source = .slot ∧
            (∃ why, s.channels[c].state = .offline why) ∧
            ∃ m, t.slots[sl].state = .ready m ∧ (s.config.channels[c].expected = .pulse ↔ m = .serial4))) s t) ∧
    (∀ due, r.partialDue = some due → s.clock < due → exec (.partialTimerExpiry sl) s = .next s) ∧
    ∀ due, r.partialDue = some due → due ≤ s.clock →
      (r.sense.a ≠ r.sense.b → r.settleDue = none →
        exec (.partialTimerExpiry sl) s =
          .next (raise .moduleRejected (some sl.val)
            (s.setSlot sl { r with state := .rejected .partly, settleDue := none, partialDue := none }))) ∧
      (r.sense.a = r.sense.b ∨ r.settleDue ≠ none →
        exec (.partialTimerExpiry sl) s = .next (s.setSlot sl { r with partialDue := none }))

/-- PULSE_INPUT adds 1 modulo 65,536 to the counter of its position while the slot is READY with a PULSE4 or PULSE4F
module, and changes nothing otherwise. PULSE_SAMPLE takes, for every LIVE active pulse channel of such a slot in
channel order, the counter c with delta = ((c - base) mod 65,536) x pulse weight x prescaler (16 for PULSE4F, else
1), lowers it to the limit of R12 with READING_CLAMPED where it is above, makes c the base and the present plant
time the last reading time, and hands the increment on; every other channel is as it was and no counter changes. The
time of the next sample, and a LIVE pulse channel without a base, are the model's: log entries 2 and 14. (R12, R15,
R16, R32, R33) -/
def Obligations.PulsesAreCountedAndSampled : Prop :=
  (∀ (sl : Slot) (q : Position) (s : State),
    (s.slots[sl].state = .ready .pulse4 ∨ s.slots[sl].state = .ready .pulse4f →
      exec (.pulseInput sl q) s =
        .next (s.setSlot sl { s.slots[sl] with
          positions := s.slots[sl].positions.set q
            { s.slots[sl].positions[q] with counter := (s.slots[sl].positions[q].counter + 1) % 65536 } })) ∧
    (s.slots[sl].state ≠ .ready .pulse4 → s.slots[sl].state ≠ .ready .pulse4f →
      exec (.pulseInput sl q) s = .next s)) ∧
  ∀ s : State,
    let now := s.interval.plantTime
    let begun : State := { s with clock := max s.clock s.sampleDue, sampleDue := s.sampleDue + 1000 }
    let sampled (c : Chan) : Bool :=
      (s.slots[slotOf c].state == .ready .pulse4 || s.slots[slotOf c].state == .ready .pulse4f) &&
        s.config.channels[c].active && s.config.channels[c].source == .slot &&
        s.config.channels[c].expected == .pulse && s.channels[c].state == .live
    let taken (t : State) (c : Chan) : State :=
      let g := s.config.channels[c]
      let r := s.channels[c]
      let count := (s.position c).counter
      let base := r.base.getD count
      let change : Nat := (((count : Int) - base) % 65536).toNat
      let delta := change * g.pulseWeight * (if s.slots[slotOf c].state = .ready .pulse4f then 16 else 1)
      let limit := g.rateCeiling * max 1 (min (now - r.lastReading) 86400)
      let live := t.setChannel c { r with state := .live, base := some count, lastReading := now }
      if delta ≤ limit then (handOn c delta none live).1
      else (handOn c limit none (raise .readingClamped (some c.val) live)).1
    exec .pulseSample s = .next ((List.finRange 32).foldl (fun t c => if sampled c then taken t c else t) begun) ∧
    ∃ t, exec .pulseSample s = .next t ∧ t.slots = s.slots ∧ t.config = s.config ∧ t.furnaces = s.furnaces ∧
      t.lines = s.lines ∧ t.interval = s.interval ∧
      ∀ c : Chan,
        (sampled c = true →
          t.channels[c].state = .live ∧ t.channels[c].base = some (s.position c).counter ∧
          t.channels[c].lastReading = now) ∧
        (sampled c = false → t.channels[c] = s.channels[c])

/-- POLL_START with no poll in flight polls the lowest-numbered due pollable position, at the channel's committed
address, with a reply limit of 200 ms and the next poll a poll period later; with none due or a poll in flight it
changes nothing. POLL_REPLY to the poll in flight within its limit, with a good check, the polled address and a
value below the modulus, clears the failed polls and is a TOTAL reading: it sets an absent base, or is classed by
R14 and handed on. Any other reply to it within its limit, and REPLY_LIMIT_EXPIRY at the limit, add a failed poll up
to 3; with 3 a channel in BASING or LIVE goes to STALE with CHANNEL_STALE, a run on it aborted. A reply with no poll
in flight, to an earlier poll, or after the limit is discarded, and an expiry before the limit changes nothing. The
number by which a reply names its poll, the clock in milliseconds, events that cannot come about, and a channel in
BASING whose count is 3 already are the model's: log entries 2, 6, 13 and 24. (R30, R34, R35, R36, R37, R38, R152) -/
def Obligations.PollsRunOneAtATime : Prop :=
  (∀ (sl : Slot) (q : Position) (s : State), s.slots[sl].poll = none →
    (∃ due, pollable s (chanAt sl q) = true ∧ s.slots[sl].positions[q].nextDue = some due ∧ due ≤ s.clock) →
    (∀ q' : Position, q' < q → pollable s (chanAt sl q') = true →
      ∀ due, s.slots[sl].positions[q'].nextDue = some due → s.clock < due) →
    let g := s.config.channels[chanAt sl q]
    exec (.pollStart sl) s =
      .next (s.setSlot sl { s.slots[sl] with
        poll := some { position := q, address := g.address, limit := s.clock + 200 },
        polls := s.slots[sl].polls + 1,
        positions := s.slots[sl].positions.set q
          { s.slots[sl].positions[q] with nextDue := some (s.clock + 1000 * g.pollPeriod) } })) ∧
  (∀ (sl : Slot) (s : State),
    (s.slots[sl].poll ≠ none ∨ (∀ q : Position, pollable s (chanAt sl q) = true →
      ∀ due, s.slots[sl].positions[q].nextDue = some due → s.clock < due) → exec (.pollStart sl) s = .next s) ∧
    (s.slots[sl].poll = none →
      exec (.replyLimitExpiry sl) s = .next s ∧
      ∀ n check address value, exec (.pollReply ⟨sl, n⟩ check address value) s = .next s)) ∧
  ∀ (sl : Slot) (v : Poll) (s : State), s.slots[sl].poll = some v →
    let c := chanAt sl v.position
    let g := s.config.channels[c]
    let r := s.channels[c]
    let now := s.interval.plantTime
    let limit := g.rateCeiling * max 1 (min (now - r.lastReading) 86400)
    let ended (n : Nat) : State :=
      s.setSlot sl { s.slots[sl] with
        poll := none,
        positions := s.slots[sl].positions.set v.position { s.slots[sl].positions[v.position] with failed := n } }
    let n := min 3 (s.slots[sl].positions[v.position].failed + 1)
    let failed (t : State) : Prop :=
      ((n ≠ 3 ∨ (r.state ≠ .basing ∧ r.state ≠ .live)) → t = ended n) ∧
      (n = 3 → r.state = .basing ∨ r.state = .live →
        ∃ a, RunAborted c (ended n) a ∧
          t = raise .channelStale (some c.val) (a.setChannel c { released s c with state := .stale }))
    let number := s.slots[sl].polls
    (∀ m check address value, m ≠ number ∨ v.limit < s.clock →
      exec (.pollReply ⟨sl, m⟩ check address value) s = .next s) ∧
    (s.clock ≤ v.limit →
      (∀ value, value < g.modulus → r.base = none →
        exec (.pollReply ⟨sl, number⟩ true v.address value) s =
          .next ((ended 0).setChannel c { r with state := .live, base := some value, lastReading := now })) ∧
      (∀ value b o u b', value < g.modulus → r.base = some b → ClassedAs g.modulus limit b value o u b' →
        exec (.pollReply ⟨sl, number⟩ true v.address value) s =
          .next (handOn c u none (raiseReading c o
            ((ended 0).setChannel c { r with state := .live, base := some b', lastReading := now }))).1) ∧
      ∀ check address value, (check = false ∨ address ≠ v.address ∨ g.modulus ≤ value) →
        ∃ t, exec (.pollReply ⟨sl, number⟩ check address value) s = .next t ∧ failed t) ∧
    (s.clock < v.limit → exec (.replyLimitExpiry sl) s = .next s) ∧
    (v.limit ≤ s.clock → ∃ t, exec (.replyLimitExpiry sl) s = .next t ∧ failed t)

/-- A split of Q by bases whose sum B is above 0 has a part for each base; the parts sum to Q; a receiver that is not
the earliest of the largest bases gets floor(Q b / B), that one gets the residue besides, and the residue is below
the number of receivers; a base of 0 gets 0, and a split of 0 gives 0 to every receiver. (R46) -/
def Obligations.SplitGivesWholeQuantity : Prop :=
  ∀ (q : Nat) (bases : List Nat), 0 < bases.sum →
    (split q bases).length = bases.length ∧ (split q bases).sum = q ∧
    ∃ m, m < bases.length ∧
      (∀ i, i < bases.length → bases.getD i 0 ≤ bases.getD m 0) ∧ (∀ i, i < m → bases.getD i 0 < bases.getD m 0) ∧
      (∀ i, i < bases.length → i ≠ m → (split q bases).getD i 0 = q * bases.getD i 0 / bases.sum) ∧
      (split q bases).getD m 0 =
        q * bases.getD m 0 / bases.sum + (q - (bases.map fun b => q * b / bases.sum).sum) ∧
      q - (bases.map fun b => q * b / bases.sum).sum < bases.length ∧
      (∀ i, i < bases.length → bases.getD i 0 = 0 → (split q bases).getD i 0 = 0) ∧
      (q = 0 → ∀ i, (split q bases).getD i 0 = 0)

/-- An increment of E kJ adds E to the metered energy and is placed in the same step: FIXED splits it by weight over all
entries, each part in its consumer's class; STATE splits it over the entries whose consumer is in producing class,
producing, or where none is over all entries, standby; TAGGED books it to a tagged consumer that the list names and
that is enabled, in its class, and otherwise to COMMON with TAG_UNLISTED; DRIVER adds it to the open pool, held at
2^48 - 1 with the bank's saturated mark set. A part for COMMON is common energy. Furnaces, lines, channels and
closing bank are unchanged, and where the open bank's saturated mark is clear after it, the accounts with the open
pools gain E, for a list with an entry and no weight of 0. A booking is held at 2^48 - 1 with the mark set. A listed
consumer that is disabled going to COMMON, and a TAGGED increment without a tag, are the model's reading: log entry
14. (R41, R42, R43, R47, R48, R49, R50, R51) -/
def Obligations.IncrementIsPlacedAndBalances : Prop :=
  (∀ (c : Chan) (e : Nat) (tag : Option Consumer) (s : State),
    let g := s.config.channels[c]
    let t := placeIncrement c e tag s
    let metered := s.openBank.add .metered e
    let booked (parts : List (Account × Nat)) : State := s.setOpenBank (metered.booked parts)
    let weights (l : List Entry) : List Nat := l.map Entry.weight
    let working := g.entries.filter fun n => inProducingClass s n.consumer
    (g.mode = .fixed →
      t = booked (shares e (g.entries.map fun n => energyOf (inProducingClass s n.consumer) n.consumer)
        (weights g.entries))) ∧
    (g.mode = .state → working ≠ [] →
      t = booked (shares e (working.map fun n => energyOf true n.consumer) (weights working))) ∧
    (g.mode = .state → working = [] →
      t = booked (shares e (g.entries.map fun n => energyOf false n.consumer) (weights g.entries))) ∧
    (g.mode = .tagged →
      (∀ n, tag = some n → (∃ w, ⟨n, w⟩ ∈ g.entries) → enabled s.config n = true →
        t = booked [(energyOf (inProducingClass s n) n, e)]) ∧
      ((∀ n, tag = some n → (∀ w, ⟨n, w⟩ ∉ g.entries) ∨ enabled s.config n = false) →
        t = raise .tagUnlisted (some c.val) (booked [(.common, e)]))) ∧
    (g.mode = .driver →
      t = (s.setOpenBank { metered with
          saturated := metered.saturated || decide (2 ^ 48 - 1 < s.pools[c].opened + e) }).setPool c
        { s.pools[c] with opened := min (s.pools[c].opened + e) (2 ^ 48 - 1) }) ∧
    (g.entries ≠ [] → (∀ n ∈ g.entries, 0 < n.weight) → t.openBank.saturated = false →
      t.openBank.metered = s.openBank.metered + e ∧
      t.openBank.energy + openPools t = s.openBank.energy + openPools s + e) ∧
    t.furnaces = s.furnaces ∧ t.lines = s.lines ∧ t.channels = s.channels ∧ t.closingBank = s.closingBank ∧
    t.config = s.config ∧ t.interval = s.interval) ∧
  ∀ (b : Bank) (a : Account) (x : Nat),
    (b.add a x).get a = min (b.get a + x) (2 ^ 48 - 1) ∧ (∀ a', a' ≠ a → (b.add a x).get a' = b.get a') ∧
    ((b.add a x).saturated = true ↔ b.saturated = true ∨ 2 ^ 48 - 1 < b.get a + x)

/-- A pool settled with a list that has an entry and no weight of 0 is split by weight times driver, the driver of a
furnace or line being its pulled mass in the bank and that of COMMON 0, every part booked producing; where every
driver is 0 it is split by weight, every part standby. It adds its whole energy to the accounts where the bank is
not saturated after it, and moves no mass and no metered energy. CLOSING_POOL_SETTLE with a close in flight settles
the channel's closing pool into the closing bank with the snapshot's list and leaves that pool 0; nothing else
changes. (R46, R52, R54) -/
def Obligations.SettlementBooksThePool : Prop :=
  (∀ (entries : List Entry) (q : Nat) (b : Bank), entries ≠ [] → (∀ n ∈ entries, 0 < n.weight) →
    let t := settle entries q b
    let drivers := entries.map fun n => n.weight * driverMass b n.consumer
    ((∃ n ∈ entries, 0 < driverMass b n.consumer) →
      t = b.booked (shares q (entries.map fun n => energyOf true n.consumer) drivers)) ∧
    ((∀ n ∈ entries, driverMass b n.consumer = 0) →
      t = b.booked (shares q (entries.map fun n => energyOf false n.consumer) (entries.map Entry.weight))) ∧
    (∀ n ∈ entries, driverMass b n.consumer =
      (match n.consumer with
        | .furnace f => b.get (.furnace f .pulled)
        | .line l => b.get (.line l .pulled)
        | .common => 0)) ∧
    (t.saturated = false → t.energy = b.energy + q) ∧ t.metered = b.metered ∧
    (∀ (f : Furnace) (k : FurnaceKey), k ≠ .producing → k ≠ .standby →
      t.get (.furnace f k) = b.get (.furnace f k)) ∧
    (∀ (l : Line) (k : LineKey), k ≠ .producing → k ≠ .standby → t.get (.line l k) = b.get (.line l k)) ∧
    ((∃ n ∈ entries, 0 < driverMass b n.consumer) →
      (∀ f : Furnace, t.get (.furnace f .standby) = b.get (.furnace f .standby)) ∧
      (∀ l : Line, t.get (.line l .standby) = b.get (.line l .standby)) ∧
      (b.common ≤ bankLimit → t.common = b.common)) ∧
    ((∀ n ∈ entries, driverMass b n.consumer = 0) →
      (∀ f : Furnace, t.get (.furnace f .producing) = b.get (.furnace f .producing)) ∧
      ∀ l : Line, t.get (.line l .producing) = b.get (.line l .producing))) ∧
  ∀ (c : Chan) (s : State) (k : Closing) (l : List Entry), s.interval.closing = some k → k.snapshot.lists[c] = some l →
    exec (.closingPoolSettle c) s =
      .next ((s.setClosingBank (settle l s.pools[c].closing s.closingBank)).setPool c { s.pools[c] with closing := 0 })

/-- In RUNNING, for an enabled furnace: FURNACE_HOLD takes MELTING to HOLD while no enabled line it feeds is PRODUCING,
JOB_CHANGE or HOLD_PENDING, and is refused otherwise with LINES_ACTIVE naming the lowest such line and its state;
FURNACE_RESUME takes HOLD to MELTING and FURNACE_WARM COLD to HOLD. Each of these and FURNACE_SHUTDOWN, which is
taken from HOLD, is refused with WRONG_STATE from any other state, with NOT_CONFIGURED for a furnace that is not
enabled, and with RANGE for a number above 3. Nothing but the state and the service record changes. The coding of
the states is the model's: log entry 5. (R64, R65, R66, R67, R70) -/
def Obligations.FurnaceStateRequests : Prop :=
  ∀ (p : Port) (tag : Octet) (s : State), s.phase = .running →
    (∀ n, 3 < n →
      exec (.furnaceHold p tag n) s = .next (replied p tag (.furnaceHold n) .range [] s) ∧
      exec (.furnaceResume p tag n) s = .next (replied p tag (.furnaceResume n) .range [] s) ∧
      exec (.furnaceWarm p tag n) s = .next (replied p tag (.furnaceWarm n) .range [] s) ∧
      exec (.furnaceShutdown p tag n) s = .next (replied p tag (.furnaceShutdown n) .range [] s)) ∧
    ∀ f : Furnace,
      let r := s.furnaces[f]
      let works (l : Line) : Prop := s.config.lines[l].enabled = true ∧ s.config.lines[l].feeding = f ∧
        (s.lines[l].state = some .producing ∨ s.lines[l].state = some .jobChange ∨
          s.lines[l].state = some .holdPending)
      (s.config.furnaces[f].enabled = false →
        exec (.furnaceHold p tag f.val) s = .next (replied p tag (.furnaceHold f.val) .notConfigured [] s) ∧
        exec (.furnaceResume p tag f.val) s = .next (replied p tag (.furnaceResume f.val) .notConfigured [] s) ∧
        exec (.furnaceWarm p tag f.val) s = .next (replied p tag (.furnaceWarm f.val) .notConfigured [] s) ∧
        exec (.furnaceShutdown p tag f.val) s =
          .next (replied p tag (.furnaceShutdown f.val) .notConfigured [] s)) ∧
      (s.config.furnaces[f].enabled = true →
        (r.state = some .melting → (∀ l, ¬ works l) →
          exec (.furnaceHold p tag f.val) s =
            .next (replied p tag (.furnaceHold f.val) .ok (octets 1 1)
              (s.setFurnace f { r with state := some .hold }))) ∧
        (r.state = some .melting → ∀ l st, works l → (∀ l', l' < l → ¬ works l') → s.lines[l].state = some st →
          exec (.furnaceHold p tag f.val) s =
            .next (replied p tag (.furnaceHold f.val) .linesActive (octets 1 l.val ++ octets 1 st.code) s)) ∧
        (r.state = some .hold →
          exec (.furnaceResume p tag f.val) s =
            .next (replied p tag (.furnaceResume f.val) .ok (octets 1 0)
              (s.setFurnace f { r with state := some .melting }))) ∧
        (r.state = some .cold →
          exec (.furnaceWarm p tag f.val) s =
            .next (replied p tag (.furnaceWarm f.val) .ok (octets 1 1)
              (s.setFurnace f { r with state := some .hold }))) ∧
        ∀ st, r.state = some st →
          (st ≠ .melting →
            exec (.furnaceHold p tag f.val) s =
              .next (replied p tag (.furnaceHold f.val) .wrongState (octets 1 st.code) s)) ∧
          (st ≠ .hold →
            exec (.furnaceResume p tag f.val) s =
              .next (replied p tag (.furnaceResume f.val) .wrongState (octets 1 st.code) s) ∧
            exec (.furnaceShutdown p tag f.val) s =
              .next (replied p tag (.furnaceShutdown f.val) .wrongState (octets 1 st.code) s)) ∧
          (st ≠ .cold →
            exec (.furnaceWarm p tag f.val) s =
              .next (replied p tag (.furnaceWarm f.val) .wrongState (octets 1 st.code) s)))

/-- In RUNNING, for an enabled furnace in HOLD: where every enabled line it feeds is COLD (none counts as all),
FURNACE_SHUTDOWN takes it to COLD in the step that adds its inventory mass to the drained mass of the open bank and
empties its queue and both inventories, its last serial and last cullet permille kept and no other accumulator
changed; otherwise it is refused with LINES_ACTIVE naming the lowest line that is not COLD, and changes nothing.
(R68, R69) -/
def Obligations.FurnaceShutdownDrains : Prop :=
  ∀ (p : Port) (tag : Octet) (f : Furnace) (s : State), s.phase = .running →
    s.config.furnaces[f].enabled = true → s.furnaces[f].state = some .hold →
    let r := s.furnaces[f]
    let blocks (l : Line) : Prop :=
      s.config.lines[l].enabled = true ∧ s.config.lines[l].feeding = f ∧ s.lines[l].state ≠ some .cold
    ((∀ l, ¬ blocks l) →
      ∃ b : Bank,
        b.get (.furnace f .drained) = min (s.openBank.get (.furnace f .drained) + r.inventoryMass) (2 ^ 48 - 1) ∧
        (∀ a, a ≠ .furnace f .drained → b.get a = s.openBank.get a) ∧
        b.saturated =
          (s.openBank.saturated ||
            decide (2 ^ 48 - 1 < s.openBank.get (.furnace f .drained) + r.inventoryMass)) ∧
        exec (.furnaceShutdown p tag f.val) s =
          .next (replied p tag (.furnaceShutdown f.val) .ok (octets 1 2)
            ((s.setOpenBank b).setFurnace f
              { state := some .cold, lastSerial := r.lastSerial, lastCullet := r.lastCullet, queue := [],
                inventoryMass := 0, inventoryCullet := 0 }))) ∧
    ∀ l st, blocks l → (∀ l', l' < l → ¬ blocks l') → s.lines[l].state = some st →
      exec (.furnaceShutdown p tag f.val) s =
        .next (replied p tag (.furnaceShutdown f.val) .linesActive (octets 1 l.val ++ octets 1 st.code) s)

/-- In RUNNING, for an enabled furnace in MELTING or HOLD, a charge with a serial above the last, masses of at most
20,000,000 g and an inventory that stays within 10^12 g is taken: its mass is the batch less the loss on ignition
plus the cullet, booked as melted mass; it becomes the newest record, or at 64 records is merged into the newest
with QUEUE_MERGED, or enters no record where its mass is 0. A furnace above 3, a serial that is 0 or above 2^32 - 1,
or a mass above 20,000,000 g is refused with RANGE, a furnace that is not enabled with NOT_CONFIGURED, a COLD one
with FURNACE_COLD, a serial not above the last with DUPLICATE carrying the last, and an inventory above 10^12 g with
RANGE, in that order, and nothing changes. The outcome codes and the octets of the reply, masses in 6 octets, are
the model's: log entries 5 and 9. (R72, R74, R75, R76, R178) -/
def Obligations.ChargePostEntersTheQueue : Prop :=
  ∀ (p : Port) (tag : Octet) (s : State), s.phase = .running →
    (∀ n serial batch cullet, 3 < n →
      exec (.chargePost p tag n serial batch cullet) s =
        .next (replied p tag (.chargePost n serial batch cullet) .range [] s)) ∧
    ∀ (f : Furnace) (serial batch cullet : Nat),
    let r := s.furnaces[f]
    let mass := batch * (1000 - s.config.furnaces[f].loi) / 1000 + cullet
    let i : Instr := .chargePost p tag f.val serial batch cullet
    let q : Request := .chargePost f.val serial batch cullet
    let ranges := 1 ≤ serial ∧ serial ≤ 2 ^ 32 - 1 ∧ batch ≤ 20000000 ∧ cullet ≤ 20000000
    let taken (o : ChargeOutcome) (queue : List Charge) (s' : State) : Prop :=
      s' = (s.book (.furnace f .melted) mass).setFurnace f
        { r with
          lastSerial := serial, queue := queue, inventoryMass := r.inventoryMass + mass,
          inventoryCullet := r.inventoryCullet + cullet } →
      exec i s = .next (replied p tag q .ok
        (octets 1 o.code ++ octets 6 mass ++ octets 6 cullet ++ octets 1 queue.length ++
          octets 6 (r.inventoryMass + mass))
        (if o = .merged then raise .queueMerged (some f.val) s' else s'))
    (¬ ranges → exec i s = .next (replied p tag q .range [] s)) ∧
    (ranges → s.config.furnaces[f].enabled = false → exec i s = .next (replied p tag q .notConfigured [] s)) ∧
    (ranges → s.config.furnaces[f].enabled = true →
      (r.state = some .cold → exec i s = .next (replied p tag q .furnaceCold [] s)) ∧
      (r.state ≠ some .cold →
        (serial ≤ r.lastSerial → exec i s = .next (replied p tag q .duplicate (octets 4 r.lastSerial) s)) ∧
        (r.lastSerial < serial →
          (10 ^ 12 < r.inventoryMass + mass → exec i s = .next (replied p tag q .range [] s)) ∧
          (r.inventoryMass + mass ≤ 10 ^ 12 →
            (mass = 0 → ∀ s', taken .noMass r.queue s') ∧
            (0 < mass → r.queue.length < 64 → ∀ s', taken .appended
              (r.queue ++ [{ serial := serial, arrival := s.interval.plantTime, originalMass := mass,
                             originalCullet := cullet, remainingMass := mass, remainingCullet := cullet }]) s') ∧
            (0 < mass → ∀ older last, r.queue = older ++ [last] → r.queue.length = 64 → ∀ s', taken .merged
              (older ++ [{ last with
                serial := serial, originalMass := last.originalMass + mass,
                originalCullet := last.originalCullet + cullet, remainingMass := last.remainingMass + mass,
                remainingCullet := last.remainingCullet + cullet }]) s')))))

/-- A draw of m from a queue leaves m less the queue's remaining mass unbacked, or 0; the mass taken and the cullet
taken are exactly what the records lose; an unbacked part leaves the queue empty; what is left is the queue without
its oldest records but for what a part-drawn oldest one lost; the last cullet permille is that of the last record
removed, if one was. A draw on a furnace adds m to pulled mass, the unbacked part to unbacked mass and the cullet,
with the unbacked cullet, to cullet-in-pulled mass, each held at 2^48 - 1, sets the saturated mark where one of them
passed it, takes the drawn mass and cullet from the inventories, and raises INVENTORY_SHORT for the furnace exactly
where there is an unbacked part; nothing else changes. (R77, R78, R79, R80) -/
def Obligations.DrawTakesOldestFirst : Prop :=
  (∀ (m last : Nat) (queue : List Charge),
    (∀ r ∈ queue, 0 < r.remainingMass ∧ r.remainingMass ≤ r.originalMass) →
    let d := drawQueue last m queue
    let mass (l : List Charge) : Nat := (l.map Charge.remainingMass).sum
    d.unbacked = m - mass queue ∧ mass d.queue + (m - d.unbacked) = mass queue ∧
    d.cullet + (d.queue.map Charge.remainingCullet).sum = (queue.map Charge.remainingCullet).sum ∧
    (0 < d.unbacked → d.queue = []) ∧
    ((∀ r ∈ queue, r.remainingCullet ≤ r.remainingMass) →
      d.cullet ≤ m - d.unbacked ∧ ∀ r ∈ d.queue, r.remainingCullet ≤ r.remainingMass) ∧
    ∃ gone, gone ≤ queue.length ∧
      (d.queue = queue.drop gone ∨ ∃ r rest x, queue.drop gone = r :: rest ∧ 0 < x ∧ x < r.remainingMass ∧
        d.queue = { r with remainingMass := r.remainingMass - x,
                           remainingCullet := r.remainingCullet - x * r.remainingCullet / r.remainingMass } :: rest) ∧
      d.lastCullet =
        match (queue.take gone).getLast? with
        | some r => r.originalCullet * 1000 / r.originalMass
        | none => last) ∧
  ∀ (f : Furnace) (m : Nat) (s : State),
    let r := s.furnaces[f]
    let d := drawQueue r.lastCullet m r.queue
    let x := d.cullet + d.unbacked * d.lastCullet / 1000
    let sum (k : FurnaceKey) (y : Nat) : Nat := min (s.openBank.get (.furnace f k) + y) (2 ^ 48 - 1)
    let passes (k : FurnaceKey) (y : Nat) : Bool := decide (2 ^ 48 - 1 < s.openBank.get (.furnace f k) + y)
    ∃ b : Bank,
      b.get (.furnace f .pulled) = sum .pulled m ∧ b.get (.furnace f .unbacked) = sum .unbacked d.unbacked ∧
      b.get (.furnace f .cullet) = sum .cullet x ∧
      (∀ a, a ≠ .furnace f .pulled → a ≠ .furnace f .unbacked → a ≠ .furnace f .cullet →
        b.get a = s.openBank.get a) ∧
      b.saturated = (s.openBank.saturated || passes .pulled m || passes .unbacked d.unbacked || passes .cullet x) ∧
      let u : State := (s.setOpenBank b).setFurnace f
        { state := r.state, lastSerial := r.lastSerial, lastCullet := d.lastCullet, queue := d.queue,
          inventoryMass := r.inventoryMass - (m - d.unbacked), inventoryCullet := r.inventoryCullet - d.cullet }
      (d.unbacked = 0 → draw f m s = u) ∧ (0 < d.unbacked → draw f m s = raise .inventoryShort (some f.val) u)

/-- In RUNNING, for an enabled line and a job in range that is not the current one: in PRODUCING or JOB_CHANGE the job
becomes current with bases 0, the current one previous with its bases, and the line is in JOB_CHANGE; in
HOLD_PENDING, HOLD or COLD the job is latched, with REPLACED where one was latched, and the state stays. The current
job's id is refused with DUPLICATE. A line above 11, a job id that is 0 or above 2^32 - 1, a gob or article mass
outside 1 to 20,000 or gobs per cut outside 1 to 4 is refused with RANGE, and a line that is not enabled with
NOT_CONFIGURED, in that order. Nothing but the line's record and the service record changes. The coding of the
states is the model's: log entry 5. (R89, R91, R92, R93) -/
def Obligations.JobStartAppliesOrLatches : Prop :=
  ∀ (p : Port) (tag : Octet) (id gob cut art : Nat) (s : State), s.phase = .running →
    let fits := 1 ≤ id ∧ id ≤ 2 ^ 32 - 1 ∧ 1 ≤ gob ∧ gob ≤ 20000 ∧ 1 ≤ cut ∧ cut ≤ 4 ∧ 1 ≤ art ∧ art ≤ 20000
    (∀ n, 11 < n ∨ ¬ fits →
      exec (.jobStart p tag n id gob cut art) s = .next (replied p tag (.jobStart n id gob cut art) .range [] s)) ∧
    ∀ l : Line, fits →
    let r := s.lines[l]
    let j : Job := { id := id, gobMass := gob, gobsPerCut := cut, articleMass := art, cutsBase := 0, packedBase := 0 }
    let i : Instr := .jobStart p tag l.val id gob cut art
    let q : Request := .jobStart l.val id gob cut art
    (s.config.lines[l].enabled = false → exec i s = .next (replied p tag q .notConfigured [] s)) ∧
    ∀ st, s.config.lines[l].enabled = true → r.state = some st →
    ((∃ k, r.current = some k ∧ k.id = id) → exec i s = .next (replied p tag q .duplicate [] s)) ∧
    ((∀ k, r.current = some k → k.id ≠ id) →
      (st = .producing ∨ st = .jobChange →
        exec i s = .next (replied p tag q .ok (octets 1 1)
          (s.setLine l { r with state := some .jobChange, current := some j, previous := r.current }))) ∧
      (st ≠ .producing → st ≠ .jobChange →
        exec i s =
          .next (replied p tag q (if r.latched = none then .ok else .replaced) (octets 1 st.code)
            (s.setLine l { r with latched := some j }))))

/-- In RUNNING, for an enabled line: JOB_READY takes JOB_CHANGE to PRODUCING, LINE_SHUTDOWN takes HOLD to COLD and
LINE_WARM takes COLD to HOLD, each answered OK with the new state and changing nothing but the state and the service
record; from any other state each is refused with WRONG_STATE carrying it. A line above 11 is refused with RANGE and
one that is not enabled with NOT_CONFIGURED. A COLD line refuses a tally in range with LINE_COLD. The coding of the
states is the model's: log entry 5. (R91, R94, R95, R105) -/
def Obligations.LineStateRequests : Prop :=
  ∀ (p : Port) (tag : Octet) (s : State), s.phase = .running →
    let refused (n : Nat) (why : Status) : Prop :=
      exec (.jobReady p tag n) s = .next (replied p tag (.jobReady n) why [] s) ∧
      exec (.lineShutdown p tag n) s = .next (replied p tag (.lineShutdown n) why [] s) ∧
      exec (.lineWarm p tag n) s = .next (replied p tag (.lineWarm n) why [] s)
    (∀ n, 11 < n → refused n .range) ∧
    (∀ l : Line, s.config.lines[l].enabled = false → refused l.val .notConfigured) ∧
    ∀ (l : Line) (st : LineState), s.config.lines[l].enabled = true → s.lines[l].state = some st →
    let move (i : Instr) (q : Request) (source target : LineState) : Prop :=
      (st = source →
        exec i s = .next (replied p tag q .ok (octets 1 target.code)
          (s.setLine l { s.lines[l] with state := some target }))) ∧
      (st ≠ source → exec i s = .next (replied p tag q .wrongState (octets 1 st.code) s))
    move (.jobReady p tag l.val) (.jobReady l.val) .jobChange .producing ∧
    move (.lineShutdown p tag l.val) (.lineShutdown l.val) .hold .cold ∧
    move (.lineWarm p tag l.val) (.lineWarm l.val) .cold .hold ∧
    ∀ id cuts packed, 1 ≤ id → id ≤ 2 ^ 32 - 1 → cuts ≤ 2 ^ 32 - 1 → packed ≤ 2 ^ 32 - 1 → st = .cold →
      exec (.tallyPost p tag l.val id cuts packed) s =
        .next (replied p tag (.tallyPost l.val id cuts packed) .lineCold [] s)

/-- In RUNNING, for an enabled line with a current job of the tally's id: the increments are the counts less the job's
bases, or 0 where a count is below its base, and the bases become the counts. PRODUCING books cuts as pulled and
packs as packed; JOB_CHANGE books cuts as pulled and as change; HOLD absorbs cuts, raising HOLD_CUTS, and books
packs; HOLD_PENDING books as its resume state, takes the line to HOLD, stops the timer and raises LINE_HELD. A
pulled mass is drawn from the feeding furnace. A tally of the previous job books its packs alone; an unknown job is
refused with JOB_UNKNOWN. Before these checks a line above 11, a job id that is 0 or above 2^32 - 1 or a count above
2^32 - 1 is refused with RANGE, and a line that is not enabled with NOT_CONFIGURED. A refused tally changes nothing.
How the reply codes its flags, and the octets of its masses, 8 for a pulled or change mass and 6 for a packed one,
are the model's: log entries 5 and 9. (R95, R96, R97, R98, R99, R101) -/
def Obligations.TallyBooksByState : Prop :=
  ∀ (p : Port) (tag : Octet) (id cuts packed : Nat) (s : State), s.phase = .running →
    let fits := 1 ≤ id ∧ id ≤ 2 ^ 32 - 1 ∧ cuts ≤ 2 ^ 32 - 1 ∧ packed ≤ 2 ^ 32 - 1
    (∀ n, 11 < n ∨ ¬ fits →
      exec (.tallyPost p tag n id cuts packed) s = .next (replied p tag (.tallyPost n id cuts packed) .range [] s)) ∧
    (∀ l : Line, fits → s.config.lines[l].enabled = false →
      exec (.tallyPost p tag l.val id cuts packed) s =
        .next (replied p tag (.tallyPost l.val id cuts packed) .notConfigured [] s)) ∧
    ∀ (l : Line) (st : LineState), fits → s.config.lines[l].enabled = true → s.lines[l].state = some st →
      st ≠ .cold →
    let r := s.lines[l]
    let i : Instr := .tallyPost p tag l.val id cuts packed
    let q : Request := .tallyPost l.val id cuts packed
    let gain (base n : Nat) : Nat := if base ≤ n then n - base else 0
    let restarted (base n : Nat) : Nat := if base ≤ n then 0 else 1
    let booked (pulled change pack absorbed : Nat) (s' : State) : State :=
      let b := ((s'.book (.line l .pulled) pulled).book (.line l .change) change).book (.line l .packed) pack
      let d := if 0 < pulled then draw s.config.lines[l].feeding pulled b else b
      if 0 < absorbed then raise .holdCuts (some l.val) d else d
    let payload (job : Nat) (cutsBack packBack pulled pack change absorbed : Nat) (st' : LineState) : List Octet :=
      octets 1 job ++ octets 1 cutsBack ++ octets 1 packBack ++ octets 8 pulled ++ octets 6 pack ++
        octets 8 change ++ octets 4 absorbed ++ octets 1 st'.code
    (∀ j, r.current = some j → j.id = id →
      let g := gain j.cutsBase cuts * j.gobsPerCut * j.gobMass
      let a := gain j.packedBase packed * j.articleMass
      let rc := restarted j.cutsBase cuts
      let rp := restarted j.packedBase packed
      let r' := { r with current := some { j with cutsBase := cuts, packedBase := packed } }
      (st = .producing →
        exec i s = .next (replied p tag q .ok (payload 0 rc rp g a 0 0 st) (booked g 0 a 0 (s.setLine l r')))) ∧
      (st = .jobChange →
        exec i s = .next (replied p tag q .ok (payload 0 rc rp g 0 g 0 st) (booked g g 0 0 (s.setLine l r')))) ∧
      (st = .hold →
        exec i s = .next (replied p tag q .ok (payload 0 rc rp 0 a 0 (gain j.cutsBase cuts) st)
          (booked 0 0 a (gain j.cutsBase cuts) (s.setLine l r')))) ∧
      (st = .holdPending → r.resume = .producing →
        exec i s = .next (replied p tag q .ok (payload 0 rc rp g a 0 0 .hold)
          (raise .lineHeld (some l.val)
            (booked g 0 a 0 (s.setLine l { r' with state := some .hold, holdDue := none }))))) ∧
      (st = .holdPending → r.resume = .jobChange →
        exec i s = .next (replied p tag q .ok (payload 0 rc rp g 0 g 0 .hold)
          (raise .lineHeld (some l.val)
            (booked g g 0 0 (s.setLine l { r' with state := some .hold, holdDue := none })))))) ∧
    (∀ j, (∀ k, r.current = some k → k.id ≠ id) → r.previous = some j → j.id = id →
      let a := gain j.packedBase packed * j.articleMass
      exec i s = .next (replied p tag q .ok (payload 1 0 (restarted j.packedBase packed) 0 a 0 0 st)
        (booked 0 0 a 0 (s.setLine l { r with previous := some { j with packedBase := packed } })))) ∧
    ((∀ k, r.current = some k → k.id ≠ id) → (∀ k, r.previous = some k → k.id ≠ id) →
      exec i s = .next (replied p tag q .jobUnknown [] s))

/-- In RUNNING, for an enabled line: LINE_HOLD from PRODUCING or JOB_CHANGE keeps that state as resume state, goes to
HOLD_PENDING with the hold timer at the committed tally timeout, and answers PENDING; other states are refused with
WRONG_STATE. HOLD_TIMER_EXPIRY in HOLD_PENDING, the timer having run out, goes to HOLD with HOLD_FORCED and
LINE_HELD. LINE_RESUME from HOLD with the feeding furnace enabled and MELTING applies a latched job, or returns to
the resume state with the current job, or is refused with NO_JOB; otherwise it is refused with FURNACE_NOT_MELTING.
LINE_HOLD and LINE_RESUME of a line above 11 are refused with RANGE, of one that is not enabled with NOT_CONFIGURED.
The clock in milliseconds, an expiry that cannot come about changing nothing, and the coding of the replies are the
model's: log entries 2, 5 and 13. (R91, R100, R102, R104) -/
def Obligations.HoldHandshakeAndResume : Prop :=
  ∀ (l : Line) (s : State),
    let r := s.lines[l]
    (∀ due, r.state = some .holdPending → r.holdDue = some due →
      (due ≤ s.clock →
        exec (.holdTimerExpiry l) s =
          .next (raise .lineHeld (some l.val) (raise .holdForced (some l.val)
            (s.setLine l { r with state := some .hold, holdDue := none })))) ∧
      (s.clock < due → exec (.holdTimerExpiry l) s = .next s)) ∧
    (r.state ≠ some .holdPending → exec (.holdTimerExpiry l) s = .next s) ∧
    (∀ (p : Port) (tag : Octet) (n : Nat) (why : Status), s.phase = .running →
      (11 < n ∧ why = .range) ∨ (n = l.val ∧ s.config.lines[l].enabled = false ∧ why = .notConfigured) →
      exec (.lineHold p tag n) s = .next (replied p tag (.lineHold n) why [] s) ∧
      exec (.lineResume p tag n) s = .next (replied p tag (.lineResume n) why [] s)) ∧
    ∀ (p : Port) (tag : Octet) (st : LineState), s.phase = .running → s.config.lines[l].enabled = true →
      r.state = some st →
      let pend (resume : ResumeState) : Prop :=
        exec (.lineHold p tag l.val) s =
          .next (replied p tag (.lineHold l.val) .pending (octets 1 2)
            (s.setLine l { r with
              state := some .holdPending, resume := resume,
              holdDue := some (s.clock + 1000 * s.config.plant.tallyTimeout) }))
      (st = .producing → pend .producing) ∧ (st = .jobChange → pend .jobChange) ∧
      (st ≠ .producing → st ≠ .jobChange →
        exec (.lineHold p tag l.val) s =
          .next (replied p tag (.lineHold l.val) .wrongState (octets 1 st.code) s)) ∧
      (st ≠ .hold →
        exec (.lineResume p tag l.val) s =
          .next (replied p tag (.lineResume l.val) .wrongState (octets 1 st.code) s)) ∧
      (st = .hold →
        let f := s.config.lines[l].feeding
        let melting := s.config.furnaces[f].enabled = true ∧ s.furnaces[f].state = some .melting
        (¬ melting →
          exec (.lineResume p tag l.val) s =
            .next (replied p tag (.lineResume l.val) .furnaceNotMelting
              (octets 1 f.val ++ furnaceStateCode
                (if s.config.furnaces[f].enabled then s.furnaces[f].state else none)) s)) ∧
        (melting →
          (∀ j, r.latched = some j →
            exec (.lineResume p tag l.val) s =
              .next (replied p tag (.lineResume l.val) .ok (octets 1 1 ++ octets 4 j.id)
                (s.setLine l { r with
                  state := some .jobChange, current := some j, previous := r.current, latched := none }))) ∧
          (∀ j, r.latched = none → r.current = some j →
            let back : LineState := match r.resume with | .producing => .producing | .jobChange => .jobChange
            exec (.lineResume p tag l.val) s =
              .next (replied p tag (.lineResume l.val) .ok (octets 1 back.code ++ octets 4 j.id)
                (s.setLine l { r with state := some back }))) ∧
          (r.latched = none → r.current = none →
            exec (.lineResume p tag l.val) s = .next (replied p tag (.lineResume l.val) .noJob [] s))))

/-- In STARTING and in RUNNING a STATUS is answered OK with the fields of R181 in order. In RUNNING, CHANNEL_READ of a
channel 0 to 31, SLOT_READ of a slot 0 to 7, LIVE_READ of a consumer 0 to 16 or of POOLS, QUEUE_READ of a furnace
and a start 0 to 63, and STATE_READ of a line or of ALL are answered OK with the fields of R23, R39, R59, R60, R82,
R108 and R109; other numbers are refused with RANGE. None of them changes anything but the port's service record.
The coding of fields that R178 leaves open, the numbers of the attribution modes among them, and the 6 octets of
each mass are the model's: log entries 5 and 9. (R23, R39, R59, R60, R82, R108, R109, R178, R181) -/
def Obligations.ReadsReportAndChangeNothing : Prop :=
  (∀ (p : Port) (tag : Octet) (s : State),
    exec (.status p tag) s =
      .next (replied p tag .status .ok
        (octets 1 p.val ++ octets 1 (match s.phase with | .starting => 0 | .running => 1) ++
          octets 4 s.interval.plantTime ++ octets 1 (if s.interval.timeSet then 0 else 1) ++
          octets 4 s.interval.number ++ octets 1 (if s.interval.closing.isSome then 0 else 1) ++
          octets 1 (if s.save.isSome then 0 else 1) ++
          (match s.prover.state with
            | .idle => [0, 0, 0, 0]
            | .running c port due _ =>
              [1] ++ ([1] ++ octets 1 c.val) ++ ([1] ++ octets 1 port.val) ++
                ([1] ++ octets 2 ((due - s.clock + 999) / 1000))) ++
          octets 1 s.config.plant.plantIdentity.length ++ s.config.plant.plantIdentity ++
          octets 1 s.config.plant.unitIdentity.length ++ s.config.plant.unitIdentity) s)) ∧
  (∀ (p : Port) (tag : Octet) (s : State), s.phase = .running →
    (∀ c : Chan,
      let g := s.config.channels[c]
      let r := s.channels[c]
      let k := s.config.carriers[g.carrier.index]
      exec (.channelRead p tag c.val) s =
        .next (replied p tag (.channelRead c.val) .ok
          (octets 1 r.state.code ++ optional (fun x => octets 1 (OfflineCause.code x)) r.state.cause ++
            optional (octets 6) r.base ++ octets 4 r.lastReading ++ octets 6 r.carry ++ octets 1 g.set.code ++
            octets 3 (k.factor g.set) ++ signedOctets 2 (k.trim g.set) ++ signedOctets 2 g.trim ++
            octets 1 (if g.isSerial then (s.position c).failed else 0) ++ yesNo r.underProve ++
            octets 1 r.prove.outcome.code ++ signedOctets 3 r.prove.deviation ++ octets 8 r.prove.channelUnits ++
            octets 8 r.prove.referenceUnits ++ octets 4 r.prove.endTime) s)) ∧
    (∀ sl : Slot,
      let r := s.slots[sl]
      exec (.slotRead p tag sl.val) s =
        .next (replied p tag (.slotRead sl.val) .ok
          (octets 1 r.state.code ++ optional (fun m => octets 1 (ModuleType.code m)) r.state.module ++
            optional (fun x => octets 1 (RejectReason.code x)) r.state.reason ++ senseCode r.sense ++
            optional (fun q => octets 1 (Poll.position q).val) r.poll ++
            [chanAt sl 0, chanAt sl 1, chanAt sl 2, chanAt sl 3].flatMap (fun c =>
              octets 1 c.val ++ octets 1 s.channels[c].state.code ++ octets 2 (s.position c).counter ++
                optional (fun t => octets 2 (t - s.clock)) (if pollable s c then (s.position c).nextDue else none) ++
                octets 1 (if s.config.channels[c].isSerial then (s.position c).failed else 0))) s)) ∧
    (∀ n, 31 < n → exec (.channelRead p tag n) s = .next (replied p tag (.channelRead n) .range [] s)) ∧
    ∀ n, 7 < n → exec (.slotRead p tag n) s = .next (replied p tag (.slotRead n) .range [] s)) ∧
  ∀ (p : Port) (tag : Octet) (s : State), s.phase = .running →
    let header : List Octet :=
      octets 4 s.interval.number ++ octets 4 s.interval.startTime ++ yesNo s.interval.closing.isSome ++
        octets 6 s.openBank.metered ++ yesNo s.openBank.saturated
    let live (n : Nat) (fields : List Octet) : Prop :=
      exec (.liveRead p tag n) s = .next (replied p tag (.liveRead n) .ok (header ++ fields) s)
    let cls (c : Consumer) : List Octet :=
      optional (fun x => octets 1 (BookingClass.code x)) (if enabled s.config c then some (classOf s c) else none)
    live 16 (octets 6 s.openBank.common) ∧
    live 255 ((List.finRange 32).flatMap fun c =>
      octets 1 c.val ++ octets 1 s.config.channels[c].mode.code ++ octets 6 s.pools[c].opened ++
        octets 6 s.pools[c].closing) ∧
    (∀ f : Furnace,
      live f.val (yesNo s.config.furnaces[f].enabled ++
        furnaceStateCode (if s.config.furnaces[f].enabled then s.furnaces[f].state else none) ++ cls (.furnace f) ++
        [FurnaceKey.producing, .standby, .melted, .pulled, .cullet, .unbacked, .drained].flatMap fun k =>
          octets 6 (s.openBank.get (.furnace f k)))) ∧
    (∀ l : Line,
      live (l.val + 4) (yesNo s.config.lines[l].enabled ++
        lineStateCode (if s.config.lines[l].enabled then s.lines[l].state else none) ++ cls (.line l) ++
        [LineKey.producing, .standby, .pulled, .packed, .change].flatMap fun k =>
          octets 6 (s.openBank.get (.line l k)))) ∧
    (∀ n, 16 < n → n ≠ 255 → exec (.liveRead p tag n) s = .next (replied p tag (.liveRead n) .range [] s)) ∧
    (∀ (f : Furnace) (start : Nat), start < 64 →
      let r := s.furnaces[f]
      exec (.queueRead p tag f.val start) s =
        .next (replied p tag (.queueRead f.val start) .ok
          (octets 1 f.val ++ yesNo s.config.furnaces[f].enabled ++ furnaceStateCode r.state ++
            octets 4 r.lastSerial ++ octets 2 r.lastCullet ++ octets 6 r.inventoryMass ++
            octets 6 r.inventoryCullet ++ octets 1 r.queue.length ++
            optional (fun q => octets 4 (s.interval.plantTime - Charge.arrival q)) r.queue.head? ++
            octets 1 start ++ listOf Charge.octets ((r.queue.drop start).take 16)) s)) ∧
    (∀ n start, 3 < n ∨ 63 < start →
      exec (.queueRead p tag n start) s = .next (replied p tag (.queueRead n start) .range [] s)) ∧
    (∀ l : Line,
      let r := s.lines[l]
      exec (.stateRead p tag l.val) s =
        .next (replied p tag (.stateRead l.val) .ok
          (octets 1 l.val ++ yesNo s.config.lines[l].enabled ++ lineStateCode r.state ++ octets 1 r.resume.code ++
            optional (fun due => octets 2 (secondsLeft s.clock due)) r.holdDue ++
            octets 1 s.config.lines[l].feeding.val ++ furnaceStateCode s.furnaces[s.config.lines[l].feeding].state ++
            optional Job.octets r.current ++ optional Job.octets r.previous ++
            optional Job.description r.latched) s)) ∧
    exec (.stateRead p tag 255) s =
      .next (replied p tag (.stateRead 255) .ok
        ((List.finRange 4).flatMap (fun f =>
            octets 1 f.val ++ yesNo s.config.furnaces[f].enabled ++
              furnaceStateCode (if s.config.furnaces[f].enabled then s.furnaces[f].state else none) ++
              cls (.furnace f)) ++
          (List.finRange 12).flatMap fun l =>
            octets 1 (l.val + 4) ++ yesNo s.config.lines[l].enabled ++
              lineStateCode (if s.config.lines[l].enabled then s.lines[l].state else none) ++ cls (.line l) ++
              octets 1 s.config.lines[l].feeding.val ++
              optional (fun j => octets 4 (Job.id j)) s.lines[l].current) s) ∧
    ∀ n, 11 < n → n ≠ 255 → exec (.stateRead p tag n) s = .next (replied p tag (.stateRead n) .range [] s)

/-- In RUNNING a tick adds 1 to plant time below 2^32 - 1. At 2^32 - 1 the next second is the wrap: plant time is 0,
every channel that is not INACTIVE takes 0 as its last reading time, the time-set mark stays, and a close of kind
WRAP begins, or waits where one is in flight. INTERVAL_EXPIRY at or past the open interval end begins a close of
kind EXPIRY at that end, or makes it wait. A close begins with all the effects of R114, and nothing else changes. In
STARTING a tick changes nothing. The tick's clock and the next second, events that cannot come about changing
nothing, and the tick taken as the wrap are the model's: log entries 2, 13 and 20. (R10, R111, R114, R116, R122) -/
def Obligations.PlantTimeRunsExpiresAndWraps : Prop :=
  ∀ s : State,
    let tick : State := { s with clock := max s.clock s.secondDue, secondDue := s.secondDue + 1000 }
    (s.phase = .starting → exec .plantTimeTick s = .next s) ∧
    (s.phase = .running → s.interval.plantTime < 2 ^ 32 - 1 →
      exec .plantTimeTick s = .next (tick.setInterval { s.interval with plantTime := s.interval.plantTime + 1 })) ∧
    (s.phase = .running → s.interval.plantTime = 2 ^ 32 - 1 → ∀ i, i = .plantTimeTick ∨ i = .plantTimeWrap →
      (s.interval.closing = none →
        ∃ u t, CloseBegun tick u (2 ^ 32 - 1) 0 true ∧ TimeChanged u t 0 s.interval.timeSet ∧ exec i s = .next t) ∧
      (s.interval.closing ≠ none →
        ∃ t, TimeChanged (tick.setInterval { s.interval with waiting := .wrap }) t 0 s.interval.timeSet ∧
          exec i s = .next t)) ∧
    ∀ e, s.interval.endTime = some e →
      (e ≤ s.interval.plantTime → s.interval.closing = none →
        ∃ t, CloseBegun s t e e false ∧ exec .intervalExpiry s = .next t) ∧
      (e ≤ s.interval.plantTime → s.interval.closing ≠ none →
        exec .intervalExpiry s = .next (s.setInterval { s.interval with waiting := .expiry })) ∧
      (s.interval.plantTime < e → exec .intervalExpiry s = .next s)

/-- In RUNNING with no close in flight, TIME_SET(t) for t up to 2^32 - 1 begins a SHORT close of kind TIME_SET at the
present plant time whose new open interval starts at t, sets plant time to t and the time-set mark, and gives every
channel that is not INACTIVE t as last reading time; the reply carries the closed number and the new one. A close in
flight refuses it with BUSY, and nothing changes; above 2^32 - 1 it is refused with RANGE. The boundary of R112 is
the smallest multiple of the length above the start. RANGE standing before BUSY is the model's: log entry 7. (R10,
R112, R114, R121) -/
def Obligations.TimeSetClosesTheInterval : Prop :=
  (∀ (p : Port) (tag : Octet) (n : Nat) (s : State), s.phase = .running →
    (n ≤ 2 ^ 32 - 1 → s.interval.closing = none →
      ∃ u t, CloseBegun s u s.interval.plantTime n true ∧ TimeChanged u t n true ∧
        exec (.timeSet p tag n) s =
          .next (replied p tag (.timeSet n) .ok
            (octets 4 s.interval.number ++ octets 4 (s.interval.number + 1)) t)) ∧
    (n ≤ 2 ^ 32 - 1 → s.interval.closing ≠ none →
      exec (.timeSet p tag n) s = .next (replied p tag (.timeSet n) .busy [] s)) ∧
    (2 ^ 32 - 1 < n → exec (.timeSet p tag n) s = .next (replied p tag (.timeSet n) .range [] s))) ∧
  ∀ length start e : Nat, 0 < length →
    (openEnd length start = some e ↔
      e % (length * 60) = 0 ∧ start < e ∧ e ≤ 2 ^ 32 - 1 ∧
        ∀ m, m % (length * 60) = 0 → start < m → e ≤ m)

/-- With a close in flight, CLOSE_END settles what is left (log entry 22), writes the record of the settled closing
bank, whose content RecordBalancesAndSharesAreWhole states field by field, as the newest of at most 48, moves a
cursor that stood at a removed record to the new oldest one with GAP and leaves every other, adds the settled bank
and the record's melt shares to the totals, each account gaining an interval and, where the bank or an account's
accumulator is saturated, its lower-bound mark, and raises INTERVAL_CLOSED on every port and SE_BAND with every out-
of-band consumer. With no close waiting the closing bank is emptied, no close is in flight and the open interval and
open bank are as they were; a waiting close begins in the same step, at the open interval end for EXPIRY, at 2^32 -
1 with a new start of 0 for WRAP. With no close in flight it changes nothing (log entry 13). (R114, R119, R120,
R135, R141, R142) -/
def Obligations.CloseEndWritesAndAdds : Prop :=
  (∀ s : State, s.interval.closing = none → exec .closeEnd s = .next s) ∧
  ∀ (s : State) (k : Closing), s.interval.closing = some k →
    let b := (forEach (List.finRange 32) (settleClosingPool k.snapshot) s).closingBank
    let r := closeRecord k b
    let gone := s.ring.take (s.ring.length - 47)
    ∃ t u, exec .closeEnd s = .next t ∧
      { u with pools := s.pools, closingBank := s.closingBank, ring := s.ring, cursors := s.cursors,
               totals := s.totals, alerts := s.alerts, ports := s.ports, interval := s.interval } = s ∧
      u.ring = s.ring.drop (s.ring.length - 47) ++ [r] ∧ TotalsAdded r b s.totals u.totals ∧
      (∀ p : Port,
        ((∀ x ∈ gone, x.number ≠ s.cursors[p].number) → u.cursors[p] = s.cursors[p]) ∧
        ((∃ x ∈ gone, x.number = s.cursors[p].number) →
          ∃ first rest, u.ring = first :: rest ∧ u.cursors[p] = { number := first.number, gap := true })) ∧
      u.closingBank = .zero ∧ u.interval = { s.interval with closing := none, waiting := .none } ∧
      (∀ c : Chan, u.pools[c].opened = s.pools[c].opened) ∧
      (∀ c : Chan, k.snapshot.lists[c] ≠ none → u.pools[c].closing = 0) ∧
      RaisedJust (fun src obj => (src = .intervalClosed ∧ obj = none) ∨
        (src = .seBand ∧ ∃ n ∈ bandObjects r, obj = some n)) s u ∧
      (∀ n, n ∈ bandObjects r ↔
        (∃ e ∈ r.furnaces, e.outOfBand = true ∧ n = e.furnace.val) ∨
          ∃ e ∈ r.lines, e.outOfBand = true ∧ n = e.line.val + 4) ∧
      (s.interval.waiting = .none → t = u) ∧
      (s.interval.waiting = .expiry → ∀ e, s.interval.endTime = some e → CloseBegun u t e e false) ∧
      (s.interval.waiting = .wrap → CloseBegun u t (2 ^ 32 - 1) 0 true)

/-- For a minimum mass of at least 1: a figure is NOT_FORMED with code 0 exactly below the minimum mass; otherwise its
code is E x 10,000 / m to the nearest code, an exact half up, or 999,999 and SATURATED where that is above 999,999.
SE_NORM is NOT_FORMED exactly where SE_FURNACE is, lies within 0 to 999,999, is SATURATED where SE_FURNACE is, and
is otherwise SE_FURNACE x M / 100,000 rounded the same way, with M = max(0, 100,000 + s (c - r)). (R125, R126, R128) -/
def Obligations.FiguresAreRoundedAndHeld : Prop :=
  (∀ min e m : Nat, 1 ≤ min →
    let g := figure min e m
    g.code ≤ 999999 ∧ (g.mark = .notFormed ↔ m < min) ∧ (m < min → g.code = 0) ∧
    (min ≤ m → ∀ n, n * (2 * m) ≤ 2 * e * 10000 + m → 2 * e * 10000 + m < (n + 1) * (2 * m) →
      (n ≤ 999999 → g = { code := n, mark := .formed }) ∧
      (999999 < n → g = { code := 999999, mark := .saturated }))) ∧
  ∀ (s r c : Nat) (se : Figure), se.code ≤ 999999 →
    let g := normFigure s r c se
    let m : Int := max 0 (100000 + (s : Int) * ((c : Int) - r))
    g.code ≤ 999999 ∧ (g.mark = .notFormed ↔ se.mark = .notFormed) ∧ (se.mark = .notFormed → g.code = 0) ∧
    (se.mark = .saturated → g.mark = .saturated) ∧
    (se.mark ≠ .notFormed → ∀ n : Nat, (n : Int) * 200000 ≤ 2 * se.code * m + 100000 →
      2 * se.code * m + 100000 < ((n : Int) + 1) * 200000 →
      g.code = min n 999999 ∧ (se.mark = .formed → (g.mark = .saturated ↔ 999999 < n)))

/-- A record carries the number, start and end time, SHORT, CLEARED and FIRST of its closing interval, and the saturated
mark, metered energy and common energy of its settled closing bank. It has an entry for exactly the furnaces and
lines that are enabled in the snapshot or have an accumulator above 0, in index order. A furnace's entry carries its
state at swap, the energies and masses of its account, the cullet permille of its pulled mass, SE_FURNACE of its
producing energy and pulled mass, and SE_NORM; a line's carries its state at swap, the energies and masses of its
account, its melt share, and SE_OWN, SE_TOTAL and SE_PACKED of R129. An entry is out of band exactly where its
consumer is enabled in the snapshot and SE_NORM, or SE_TOTAL of a line, is formed or saturated and below the band
low or above the band high. The snapshot holds the committed values and the states, absent where not enabled, of
R115. The producing and standby energy of the entries with the common energy is the whole energy of the settled
closing bank, so that a bank whose energy is its metered energy gives a record that balances. For a furnace with an
entry, the melt shares of the lines enabled in the snapshot and fed by it sum to its producing energy where one of
them pulled, split by their pulled masses, and are all 0 where none did; no other line has a share of it. (R115,
R123, R124, R127, R128, R129, R130, R131, R132, R133) -/
def Obligations.RecordBalancesAndSharesAreWhole : Prop :=
  (∀ (k : Closing) (b : Bank),
    let r := closeRecord k b
    r.energy = b.energy ∧ r.metered = b.metered ∧ (b.energy = b.metered → r.energy = r.metered) ∧
    (∀ f : Furnace, (∃ e ∈ r.furnaces, e.furnace = f) ↔
      k.snapshot.furnaces[f].enabled = true ∨ ∃ a, 0 < b.get (.furnace f a)) ∧
    ∀ l : Line, (∃ e ∈ r.lines, e.line = l ∧ e.meltShare = meltShare k.snapshot b l) ↔
      k.snapshot.lines[l].enabled = true ∨ ∃ a, 0 < b.get (.line l a)) ∧
  (∀ (k : Closing) (b : Bank),
    let r := closeRecord k b
    let strays (g : Figure) (low high : Nat) : Prop := g.mark ≠ .notFormed ∧ (g.code < low ∨ high < g.code)
    r = { number := k.number, startTime := k.startTime, endTime := k.endTime, short := k.short, cleared := k.cleared,
          first := k.first, saturated := b.saturated, metered := b.metered, common := b.common,
          furnaces := r.furnaces, lines := r.lines } ∧
    (r.furnaces.map fun e => e.furnace.val).Pairwise (· < ·) ∧ (r.lines.map fun e => e.line.val).Pairwise (· < ·) ∧
    (∀ e ∈ r.furnaces,
      let g := k.snapshot.furnaces[e.furnace]
      let a := b.furnaces[e.furnace]
      let permille := if a.pulled = 0 then 0 else a.cullet * 1000 / a.pulled
      let se := figure g.minimumMass a.producing a.pulled
      e = { furnace := e.furnace, state := g.state, producing := a.producing, standby := a.standby,
            pulled := a.pulled, melted := a.melted, drained := a.drained, unbacked := a.unbacked, cullet := permille,
            seFurnace := se, seNorm := normFigure g.sensitivity g.referenceCullet permille se,
            outOfBand := e.outOfBand } ∧
      (e.outOfBand = true ↔ g.enabled = true ∧ strays e.seNorm g.bandLow g.bandHigh)) ∧
    ∀ e ∈ r.lines,
      let g := k.snapshot.lines[e.line]
      let a := b.lines[e.line]
      let share := meltShare k.snapshot b e.line
      e = { line := e.line, state := g.state, producing := a.producing, standby := a.standby, pulled := a.pulled,
            packed := a.packed, change := a.change, meltShare := share,
            seOwn := figure g.minimumMass a.producing a.pulled,
            seTotal := figure g.minimumMass (a.producing + share) a.pulled,
            sePacked := figure g.minimumMass (a.producing + share) a.packed, outOfBand := e.outOfBand } ∧
      (e.outOfBand = true ↔ g.enabled = true ∧ strays e.seTotal g.bandLow g.bandHigh)) ∧
  (∀ s : State,
    let t := takeSnapshot s
    (∀ f : Furnace,
      let g := s.config.furnaces[f]
      t.furnaces[f] =
        { enabled := g.enabled, state := if g.enabled = true then s.furnaces[f].state else none,
          minimumMass := g.minimumMass, bandLow := g.bandLow, bandHigh := g.bandHigh,
          referenceCullet := g.referenceCullet, sensitivity := g.sensitivity }) ∧
    (∀ l : Line,
      let g := s.config.lines[l]
      t.lines[l] =
        { enabled := g.enabled, state := if g.enabled = true then s.lines[l].state else none,
          minimumMass := g.minimumMass, bandLow := g.bandLow, bandHigh := g.bandHigh, feeding := g.feeding }) ∧
    ∀ c : Chan,
      t.lists[c] = if s.config.channels[c].mode = .driver then some s.config.channels[c].entries else none) ∧
  ∀ (snap : Snapshot) (b : Bank) (f : Furnace),
    let fed := (List.finRange 12).filter fun l => snap.lines[l].enabled && snap.lines[l].feeding == f
    (snap.furnaces[f].enabled = true ∨ (∃ a, 0 < b.get (.furnace f a)) →
      ((∃ l ∈ fed, 0 < b.lines[l].pulled) →
        fed.map (meltShare snap b) = split b.furnaces[f].producing (fed.map fun l => b.lines[l].pulled) ∧
        (fed.map (meltShare snap b)).sum = b.furnaces[f].producing) ∧
      ((∀ l ∈ fed, b.lines[l].pulled = 0) → ∀ l ∈ fed, meltShare snap b l = 0)) ∧
    (∀ l : Line, snap.lines[l].enabled = false → meltShare snap b l = 0) ∧
    ∀ l ∈ fed, b.lines[l].pulled = 0 → meltShare snap b l = 0

/-- In RUNNING: INTERVAL_READ at a held record answers it with the port's GAP mark and the count of newer records, moves
the port's cursor to the next number and clears GAP; elsewhere it is refused with NO_RECORD and changes nothing.
INTERVAL_READ_AT answers a held record without GAP and moves nothing, or NOT_HELD; 0 is refused with RANGE.
CURSOR_SET puts the port's cursor at the oldest, the newest or the write position, clears GAP, and refuses other
places with RANGE. A record is laid out field by field as R140 gives it, 49 and 51 octets an entry. Yes as 0 and no
as 1, the places 0 to 2, and the presence octets of NOT_HELD are the model's: log entry 5. (R137, R138, R139, R140) -/
def Obligations.RingReadsFollowTheCursor : Prop :=
  (∀ (p : Port) (tag : Octet) (s : State), s.phase = .running →
    let w := writeNumber s
    let record (r : IntervalResult) : List Octet :=
      octets 1 (s.ring.countP fun x => r.number < x.number) ++ r.octets
    (∀ r, s.ring.find? (fun x => x.number == s.cursors[p].number) = some r →
      exec (.intervalRead p tag) s =
        .next (replied p tag .intervalRead .ok (octets 1 (if s.cursors[p].gap then 1 else 0) ++ record r)
          (s.setCursor p { number := s.cursors[p].number + 1, gap := false }))) ∧
    ((∀ r ∈ s.ring, r.number ≠ s.cursors[p].number) →
      exec (.intervalRead p tag) s =
        .next (replied p tag .intervalRead .noRecord
          (octets 4 w ++ octets 1 (if s.interval.closing.isSome then 0 else 1)) s)) ∧
    (∀ n r, 1 ≤ n → n ≤ 2 ^ 32 - 1 → s.ring.find? (fun x => x.number == n) = some r →
      exec (.intervalReadAt p tag n) s =
        .next (replied p tag (.intervalReadAt n) .ok (octets 1 0 ++ record r) s)) ∧
    (∀ n, 1 ≤ n → n ≤ 2 ^ 32 - 1 → (∀ r ∈ s.ring, r.number ≠ n) →
      exec (.intervalReadAt p tag n) s =
        .next (replied p tag (.intervalReadAt n) .notHeld
          (optional (octets 4) (s.ring.head?.map IntervalResult.number) ++
            optional (octets 4) (s.ring.getLast?.map IntervalResult.number) ++ octets 4 w) s)) ∧
    exec (.intervalReadAt p tag 0) s = .next (replied p tag (.intervalReadAt 0) .range [] s) ∧
    (let put (place n : Nat) : Prop :=
      exec (.cursorSet p tag place) s =
        .next (replied p tag (.cursorSet place) .ok (octets 4 n ++ octets 1 (if n = w then 0 else 1))
          (s.setCursor p { number := n, gap := false }))
    put 2 w ∧ (s.ring = [] → put 0 w ∧ put 1 w) ∧
      (∀ r, s.ring.head? = some r → put 0 r.number) ∧ ∀ r, s.ring.getLast? = some r → put 1 r.number) ∧
    ∀ n, 2 < n → exec (.cursorSet p tag n) s = .next (replied p tag (.cursorSet n) .range [] s)) ∧
  let mark (q : Quality) : List Octet := octets 1 (match q with | .formed => 0 | .notFormed => 1 | .saturated => 2)
  (∀ e : FurnaceEntry, e.octets.length = 49 ∧
    e.octets = octets 1 e.furnace.val ++
      octets 1 (match e.state with | none => 0 | some .melting => 1 | some .hold => 2 | some .cold => 3) ++
      octets 6 e.producing ++ octets 6 e.standby ++ octets 6 e.pulled ++ octets 6 e.melted ++ octets 6 e.drained ++
      octets 6 e.unbacked ++ octets 2 e.cullet ++ octets 3 e.seFurnace.code ++ mark e.seFurnace.mark ++
      octets 3 e.seNorm.code ++ mark e.seNorm.mark ++ octets 1 (if e.outOfBand then 1 else 0)) ∧
  (∀ e : LineEntry, e.octets.length = 51 ∧
    e.octets = octets 1 (e.line.val + 4) ++
      octets 1 (match e.state with
        | none => 0
        | some .producing => 1
        | some .jobChange => 2
        | some .holdPending => 3
        | some .hold => 4
        | some .cold => 5) ++
      octets 6 e.producing ++ octets 6 e.standby ++ octets 6 e.pulled ++ octets 6 e.packed ++ octets 6 e.change ++
      octets 6 e.meltShare ++ octets 3 e.seOwn.code ++ mark e.seOwn.mark ++ octets 3 e.seTotal.code ++
      mark e.seTotal.mark ++ octets 3 e.sePacked.code ++ mark e.sePacked.mark ++
      octets 1 (if e.outOfBand then 1 else 0)) ∧
  ∀ r : IntervalResult, r.octets.length = 26 + 49 * r.furnaces.length + 51 * r.lines.length ∧
    r.octets = octets 4 r.number ++ octets 4 r.startTime ++ octets 4 r.endTime ++
      octets 1 ((if r.short then 1 else 0) + (if r.cleared then 2 else 0) + (if r.first then 4 else 0) +
        (if r.saturated then 8 else 0)) ++
      octets 6 r.metered ++ octets 6 r.common ++ octets 1 (r.furnaces.length + r.lines.length) ++
      (r.furnaces.map FurnaceEntry.octets).flatten ++ (r.lines.map LineEntry.octets).flatten

/-- In RUNNING: TOTALS_READ of a consumer 0 to 16 answers its account, its four fields and the figures formed with the
committed values, and changes nothing. CAMPAIGN_RESET zeroes that one account, its since interval the write number
and its since time the present plant time, and changes no other state. CLEAR_COUNTS with no close in flight empties
the open bank, every open pool, every carry and the ring, zeroes the totals, puts every cursor at the open interval
number without GAP and sets the cleared mark, and changes nothing else; with a close in flight it is refused with
BUSY. Numbers above 16 are refused with RANGE. The lower-bound flag as 1 set, and the 8 octets of each mass, where
R178 says that a mass takes 6, are the model's: log entries 5 and 9. (R143, R144, R145) -/
def Obligations.TotalsAreReadResetAndCleared : Prop :=
  ∀ (p : Port) (tag : Octet) (s : State), s.phase = .running →
    let since (a : Since) : List Octet :=
      octets 4 a.interval ++ octets 4 a.time ++ octets 4 a.added ++ octets 1 (if a.lowerBound then 1 else 0)
    let fig (g : Figure) : List Octet := octets 3 g.code ++ octets 1 g.mark.code
    let now : Since := { interval := writeNumber s, time := s.interval.plantTime, added := 0, lowerBound := false }
    let totals (n : Nat) (payload : List Octet) : Prop :=
      exec (.totalsRead p tag n) s = .next (replied p tag (.totalsRead n) .ok payload s)
    let reset (n : Nat) (t : Totals) : Prop :=
      exec (.campaignReset p tag n) s =
        .next (replied p tag (.campaignReset n) .ok (octets 4 (writeNumber s)) (s.setTotals t))
    (∀ f : Furnace,
      let a := s.totals.furnaces[f]
      let g := s.config.furnaces[f]
      let c := if a.sums.pulled = 0 then 0 else a.sums.cullet * 1000 / a.sums.pulled
      let se := figure g.minimumMass a.sums.producing a.sums.pulled
      totals f.val ([FurnaceKey.producing, .standby, .melted, .pulled, .cullet, .unbacked, .drained].flatMap
          (fun k => octets 8 (a.sums.get k)) ++ since a.since ++ octets 2 c ++ fig se ++
          fig (normFigure g.sensitivity g.referenceCullet c se)) ∧
      reset f.val { s.totals with furnaces := s.totals.furnaces.set f { sums := .zero, since := now } }) ∧
    (∀ l : Line,
      let a := s.totals.lines[l]
      let g := s.config.lines[l]
      totals (l.val + 4) (octets 8 a.sums.producing ++ octets 8 a.sums.standby ++ octets 8 a.meltShare ++
          octets 8 a.sums.pulled ++ octets 8 a.sums.packed ++ octets 8 a.sums.change ++ since a.since ++
          fig (figure g.minimumMass a.sums.producing a.sums.pulled) ++
          fig (figure g.minimumMass (a.sums.producing + a.meltShare) a.sums.pulled) ++
          fig (figure g.minimumMass (a.sums.producing + a.meltShare) a.sums.packed)) ∧
      reset (l.val + 4)
        { s.totals with lines := s.totals.lines.set l { sums := .zero, meltShare := 0, since := now } }) ∧
    totals 16 (octets 8 s.totals.common.energy ++ since s.totals.common.since) ∧
    reset 16 { s.totals with common := { energy := 0, since := now } } ∧
    (∀ n, 16 < n →
      exec (.totalsRead p tag n) s = .next (replied p tag (.totalsRead n) .range [] s) ∧
      exec (.campaignReset p tag n) s = .next (replied p tag (.campaignReset n) .range [] s)) ∧
    (s.interval.closing ≠ none → exec (.clearCounts p tag) s = .next (replied p tag .clearCounts .busy [] s)) ∧
    (s.interval.closing = none →
      ∃ t : State,
        exec (.clearCounts p tag) s = .next (replied p tag .clearCounts .ok (octets 4 s.interval.number) t) ∧
        { t with openBank := s.openBank, pools := s.pools, channels := s.channels, totals := s.totals,
                 ring := s.ring, cursors := s.cursors, interval := s.interval } = s ∧
        t.openBank = .zero ∧ (∀ c : Chan, t.pools[c] = { s.pools[c] with opened := 0 }) ∧
        (∀ c : Chan, t.channels[c] = { s.channels[c] with carry := 0 }) ∧
        t.totals = Totals.zeroed s.interval.number s.interval.plantTime ∧ t.ring = [] ∧
        (∀ q : Port, t.cursors[q] = { number := s.interval.number, gap := false }) ∧
        t.interval = { s.interval with cleared := true })

/-- REFERENCE_PULSE in RUNNING adds the pulse weight in use to the reference units, held at 2^64 - 1, and changes
nothing else; in IDLE it changes nothing. The weight in use is the prover pulse weight committed when the run
starts. (R148) -/
def Obligations.ReferencePulsesCountInARun : Prop :=
  ∀ s : State,
    (s.prover.state = .idle → exec .referencePulse s = .next s) ∧
    (∀ c port due w, s.prover.state = .running c port due w →
      exec .referencePulse s =
        .next (s.setProver { s.prover with referenceUnits := min (s.prover.referenceUnits + w) (2 ^ 64 - 1) })) ∧
    ∀ (p : Port) (tag : Octet) (c : Chan) (d : Nat) (t : State), s.phase = .running → s.prover.state = .idle →
      s.channels[c].state = .live → 60 ≤ d → d ≤ 7200 → exec (.proveStart p tag c.val d) s = .next t →
      ∃ port due, t.prover.state = .running c port due s.config.plant.proverWeight

/-- In RUNNING, PROVE_START with the prover IDLE, a LIVE channel and 60 to 7200 s claims it: the mark under prove is
set, the end time is the duration away, both sums are 0. While a run is on it is refused with PROVER_BUSY, for a
channel not LIVE with WRONG_STATE, for a channel above 31 or a duration outside its range with RANGE. PROVE_STOP,
and PROVE_EXPIRY at the end time, end a run: the mark is cleared, the prove record holds outcome, deviation, sums
and plant time, the prover is IDLE with its sums, PROVE_DONE is raised. PROVE_STOP in IDLE is refused with
PROVER_IDLE; PROVE_EXPIRY in IDLE or before the end time changes nothing. The deviation is N / R rounded to the
nearest, a half away from zero, and clamped to 999,999 either way, and 0 without reference units. The clock in
milliseconds, the expiry not reached, and the coding of the replies are the model's: log entries 2, 5 and 13. (R149,
R151, R153, R154) -/
def Obligations.ProveRunsStartAndEnd : Prop :=
  (∀ (p : Port) (tag : Octet) (s : State), s.phase = .running →
    (s.prover.state = .idle → exec (.proveStop p tag) s = .next (replied p tag .proveStop .proverIdle [] s)) ∧
    (∀ n d, 31 < n ∨ d < 60 ∨ 7200 < d →
      exec (.proveStart p tag n d) s = .next (replied p tag (.proveStart n d) .range [] s)) ∧
    ∀ (c : Chan) (d : Nat), 60 ≤ d → d ≤ 7200 →
      let i : Instr := .proveStart p tag c.val d
      let q : Request := .proveStart c.val d
      (s.prover.state = .idle → s.channels[c].state = .live →
        exec i s = .next (replied p tag q .ok (octets 4 s.interval.plantTime ++ octets 2 d)
          ((s.setChannel c { s.channels[c] with underProve := true }).setProver
            { state := .running c p (s.clock + 1000 * d) s.config.plant.proverWeight, channelUnits := 0,
              referenceUnits := 0 }))) ∧
      (s.prover.state = .idle → s.channels[c].state ≠ .live →
        exec i s = .next (replied p tag q .wrongState (octets 1 s.channels[c].state.code) s)) ∧
      ∀ c' port due w, s.prover.state = .running c' port due w →
        exec i s = .next (replied p tag q .proverBusy
          (octets 1 c'.val ++ octets 1 port.val ++ octets 2 ((due - s.clock + 999) / 1000)) s)) ∧
  (∀ s : State, s.prover.state = .idle → exec .proveExpiry s = .next s) ∧
  (∀ (s : State) (c : Chan) (port : Port) (due w : Nat), s.prover.state = .running c port due w →
    let result : ProveOutcome × Int :=
      if s.prover.referenceUnits = 0 then (.noReference, 0)
      else (.passed, deviation s.prover.channelUnits s.prover.referenceUnits)
    let ended : State :=
      raise .proveDone (some c.val)
        ((s.setChannel c { s.channels[c] with
            underProve := false,
            prove := { outcome := result.1, deviation := result.2, channelUnits := s.prover.channelUnits,
                       referenceUnits := s.prover.referenceUnits, endTime := s.interval.plantTime } }).setProver
          { s.prover with state := .idle })
    (due ≤ s.clock → exec .proveExpiry s = .next ended) ∧ (s.clock < due → exec .proveExpiry s = .next s) ∧
    ∀ (p : Port) (tag : Octet), s.phase = .running →
      exec (.proveStop p tag) s =
        .next (replied p tag .proveStop .ok
          (octets 1 c.val ++ octets 1 result.1.code ++ signedOctets 3 result.2 ++
            octets 8 s.prover.channelUnits ++ octets 8 s.prover.referenceUnits) ended)) ∧
  ∀ units reference : Nat, 0 < reference →
    let n : Int := (1000 * (units : Int) - reference) * 10 ^ 6
    let d := deviation units reference
    d ≥ -999999 ∧ d ≤ 999999 ∧
    (d = 999999 ↔ 1999997 * (reference : Int) ≤ 2 * n) ∧ (d = -999999 ↔ 2 * n ≤ -1999997 * (reference : Int)) ∧
    (-999999 < d → d < 999999 →
      2 * (n - d * reference) ≤ reference ∧ -(reference : Int) ≤ 2 * (n - d * reference) ∧
      (2 * (n - d * reference) = reference → d < 0) ∧ (2 * (n - d * reference) = -(reference : Int) → 0 < d))

/-- In RUNNING, for the holder of a channel's region with a PASSED record and the channel not under prove: the staged
trim becomes the trim less the deviation over 100, rounded with a half away from zero and clamped to -500 to 500,
the last request time is now, and nothing else changes. A port that is not the holder is refused with NOT_HOLDER and
changes nothing; the channel under prove and a record that is not PASSED are refused with PROVER_BUSY and
WRONG_STATE, and set the last request time alone. Whether the clamp applied, coded yes 0 and no 1, is the model's:
log entry 5. (R155, R169) -/
def Obligations.ProveApplyCorrectsTheStagedTrim : Prop :=
  ∀ (p : Port) (tag : Octet) (c : Chan) (s : State), s.phase = .running →
    let r := channelRegion c
    let i : Instr := .proveApply p tag c.val
    let q : Request := .proveApply c.val
    ((∀ h, s.locks[r].hold = some h → h.port ≠ p) →
      exec i s = .next (replied p tag q .notHolder
        (optional (octets 1) (s.locks[r].hold.map fun h => h.port.val)) s)) ∧
    ∀ h v, s.locks[r].hold = some h → h.port = p → h.staging = .channel v →
      let held (h' : Hold) : State := s.setLock r { s.locks[r] with hold := some h' }
      let touched : State := held { h with lastRequest := s.clock }
      (∀ port due w, s.prover.state = .running c port due w →
        exec i s = .next (replied p tag q .proverBusy
          (octets 1 c.val ++ octets 1 port.val ++ octets 2 ((due - s.clock + 999) / 1000)) touched)) ∧
      ((∀ port due w, s.prover.state ≠ .running c port due w) →
        (s.channels[c].prove.outcome ≠ .passed →
          exec i s = .next (replied p tag q .wrongState (octets 1 s.channels[c].prove.outcome.code) touched)) ∧
        (s.channels[c].prove.outcome = .passed →
          let d := s.channels[c].prove.deviation
          let corr : Int := if d < 0 then -(((d.natAbs + 50) / 100 : Nat) : Int) else ((d.natAbs + 50) / 100 : Nat)
          let after : Int := max (-500) (min 500 (v.trim - corr))
          exec i s = .next (replied p tag q .ok
            (signedOctets 3 d ++ signedOctets 2 v.trim ++ signedOctets 2 after ++
              octets 1 (if after = v.trim - corr then 1 else 0))
            (held { h with staging := .channel { v with trim := after }, lastRequest := s.clock }))))

/-- In RUNNING: a port that holds a region is refused with HOLDING, one that waits with WAITING. LOCK of a free region
makes the port its holder with the committed values as staging copy and the present time as last request time. LOCK
of a held region is refused with LOCKED in NOWAIT; in WAIT the port joins the wait list after every port of higher
rank and before every one of lower rank, and the reply names holder and position. LOCK_CANCEL withdraws the port's
wait, the other waiters keeping their order, or is refused with WRONG_STATE. Regions above 52 and modes above 1 are
refused with RANGE. WAIT as 0 and NOWAIT as 1 are the model's: log entry 5. (R158, R159, R160) -/
def Obligations.LockGrantsQueuesOrRefuses : Prop :=
  (∀ (p : Port) (tag : Octet) (s : State), s.phase = .running →
    (∀ r m, 52 < r ∨ 1 < m → exec (.lock p tag r m) s = .next (replied p tag (.lock r m) .range [] s)) ∧
    (∀ (r : RegionNo) (m : Nat), m ≤ 1 →
      let i : Instr := .lock p tag r.val m
      let q : Request := .lock r.val m
      (∀ r', s.portLocks[p].held = some r' → exec i s = .next (replied p tag q .holding (octets 1 r'.val) s)) ∧
      (∀ r', s.portLocks[p].held = none → s.portLocks[p].waited = some r' →
        exec i s = .next (replied p tag q .waiting (octets 1 r'.val) s)) ∧
      (s.portLocks[p].held = none → s.portLocks[p].waited = none →
        (s.locks[r].hold = none →
          exec i s = .next (replied p tag q .ok []
            ((s.setLock r { s.locks[r] with
                hold := some { port := p, staging := s.config.get (regionOf r), lastRequest := s.clock } }).setPortLock
              p { held := some r, waited := none }))) ∧
        ∀ h, s.locks[r].hold = some h →
          (m = 1 → exec i s = .next (replied p tag q .locked
            (octets 1 h.port.val ++ octets 1 s.locks[r].waitList.length) s)) ∧
          (m = 0 → p ∉ s.locks[r].waitList → ∃ before after,
            s.locks[r].waitList = before ++ after ∧
            exec i s = .next (replied p tag q .queued (octets 1 h.port.val ++ octets 1 (before.length + 1))
              ((s.setLock r { s.locks[r] with waitList := before ++ p :: after }).setPortLock p
                { held := none, waited := some r })) ∧
            (s.locks[r].waitList.Pairwise
                (fun x y => rankAt s.config.plant.rank x < rankAt s.config.plant.rank y) →
              (∀ x ∈ before, rankAt s.config.plant.rank x ≤ rankAt s.config.plant.rank p) ∧
              ∀ y ∈ after, rankAt s.config.plant.rank p < rankAt s.config.plant.rank y)))) ∧
    (∀ r, s.portLocks[p].waited = some r →
      exec (.lockCancel p tag) s =
        .next (replied p tag .lockCancel .ok (octets 1 r.val)
          ((s.setLock r { s.locks[r] with waitList := s.locks[r].waitList.filter (· != p) }).setPortLock p
            { s.portLocks[p] with waited := none }))) ∧
    (s.portLocks[p].waited = none →
      exec (.lockCancel p tag) s =
        .next (replied p tag .lockCancel .wrongState
          (optional (octets 1) (s.portLocks[p].held.map Fin.val)) s)))

/-- In RUNNING: STAGE_WRITE of a field in its table, with a count in range, from a port that is not the holder is
refused with NOT_HOLDER and changes nothing; from the holder a value in its range and form replaces the field in the
staging copy, the previous value is answered, and the last request time is now; another value is refused with RANGE
and sets the last request time alone. CONFIG_READ answers the committed values to any port and the staging copy to
the holder alone, with holder and wait list, and sets the holder's last request time. Regions above 52 are refused
with RANGE. A field outside its region's table or a count outside its range (more than 6 entries, more than 16
characters) is refused with RANGE before the holder is looked at, and changes nothing. COMMITTED as 0 and STAGED as
1, and a yes or no octet above 1 refused after the holder check, the codings of the other fields, the numbers of the
attribution modes among them, and the 6 octets of each mass are the model's: log entries 5 and 9. (R156, R162, R163,
R176) -/
def Obligations.StageWritesAndReads : Prop :=
  ∀ (p : Port) (tag : Octet) (s : State), s.phase = .running →
    (∀ n f v, 52 < n → exec (.stageWrite p tag n f v) s = .next (replied p tag (.stageWrite n f v) .range [] s)) ∧
    (∀ n w, 52 < n ∨ 1 < w → exec (.configRead p tag n w) s = .next (replied p tag (.configRead n w) .range [] s)) ∧
    ∀ r : RegionNo,
      let k := s.locks[r]
      let holder : List Octet := optional (octets 1) (k.hold.map fun h => h.port.val)
      let lists : List Octet := holder ++ (octets 1 k.waitList.length ++ k.waitList.flatMap fun x => octets 1 x.val)
      let held (h' : Hold) : State := s.setLock r { k with hold := some h' }
      (∀ f v, fieldForm (regionOf r).kind f = none ∨ (∃ l, v = .entries l ∧ 6 < l.length) ∨
          (∃ cs, v = .text cs ∧ 16 < cs.length) →
        exec (.stageWrite p tag r.val f v) s = .next (replied p tag (.stageWrite r.val f v) .range [] s)) ∧
      ((∀ h, k.hold = some h → h.port ≠ p) →
        (∀ f form v, fieldForm (regionOf r).kind f = some form → countOver v = false →
          exec (.stageWrite p tag r.val f v) s =
            .next (replied p tag (.stageWrite r.val f v) .notHolder holder s)) ∧
        exec (.configRead p tag r.val 0) s =
          .next (replied p tag (.configRead r.val 0) .ok ((s.config.get (regionOf r)).code ++ lists) s) ∧
        exec (.configRead p tag r.val 1) s =
          .next (replied p tag (.configRead r.val 1) .notHolder holder s)) ∧
      ∀ h, k.hold = some h → h.port = p →
        (∀ f form v, fieldForm (regionOf r).kind f = some form →
          (inForm form v = true →
            exec (.stageWrite p tag r.val f v) s =
              .next (replied p tag (.stageWrite r.val f v) .ok (valueOctets form (h.staging.field f))
                (held { h with staging := h.staging.withField f v, lastRequest := s.clock })) ∧
            (h.staging.kind = (regionOf r).kind →
              (h.staging.withField f v).kind = h.staging.kind ∧ (h.staging.withField f v).field f = v ∧
              ∀ f', f' ≠ f → fieldForm (regionOf r).kind f' ≠ none →
                (h.staging.withField f v).field f' = h.staging.field f')) ∧
          (inForm form v = false → countOver v = false →
            exec (.stageWrite p tag r.val f v) s =
              .next (replied p tag (.stageWrite r.val f v) .range [] (held { h with lastRequest := s.clock })))) ∧
        exec (.configRead p tag r.val 0) s =
          .next (replied p tag (.configRead r.val 0) .ok ((s.config.get (regionOf r)).code ++ lists)
            (held { h with lastRequest := s.clock })) ∧
        exec (.configRead p tag r.val 1) s =
          .next (replied p tag (.configRead r.val 1) .ok (h.staging.code ++ lists)
            (held { h with lastRequest := s.clock }))

/-- A hold ends in one step: the port holds nothing, and the region goes to its first waiter with a fresh staging copy
and LOCK_GRANTED, or is free. RELEASE(DISCARD) does so alone. RELEASE(COMMIT) of a staging copy of its region's kind
that fails no check of R165 adopts it first, with every effect that R166 lists, and then lets the holders silent for
a changed lock timeout expire; one that fails a check changes no configuration and is answered REJECTED with the
first failing reason and the number of a field that the check looks at; without a held region it is refused with
NOT_HOLDER. LOCK_EXPIRY at the last request time plus the lock timeout raises LOCK_EXPIRED for the holder and ends
its hold; before that, or with no holder, it changes nothing. BREAK clears the port's reception, held request and
reply, once until the line is at mark, and ends its hold or its wait. The field named, the clock in milliseconds,
the codings, an expiry not reached, the region passing on before silent holders expire, and the mark of a line at
space are the model's: log entries 1, 2, 5, 13, 17 and 18. (R161, R164, R165, R166, R167, R168, R172) -/
def Obligations.ReleaseExpiryAndBreakPassTheRegionOn : Prop :=
  (∀ (r : RegionNo) (p : Port) (s : State),
    (s.locks[r].waitList = [] →
      endHold r p s =
        (s.setPortLock p { s.portLocks[p] with held := none }).setLock r { hold := none, waitList := [] }) ∧
    ∀ q rest, s.locks[r].waitList = q :: rest →
      endHold r p s =
        raiseTo q .lockGranted (some r.val)
          (((s.setPortLock p { s.portLocks[p] with held := none }).setLock r
              { hold := some { port := q, staging := s.config.get (regionOf r), lastRequest := s.clock },
                waitList := rest }).setPortLock q { held := some r, waited := none })) ∧
  (∀ (p : Port) (tag : Octet) (s : State), s.phase = .running →
    (∀ a, 1 < a → exec (.release p tag a) s = .next (replied p tag (.release a) .range [] s)) ∧
    (s.portLocks[p].held = none →
      ∀ a, a ≤ 1 → exec (.release p tag a) s = .next (replied p tag (.release a) .notHolder [0] s)) ∧
    ∀ r h, s.portLocks[p].held = some r → s.locks[r].hold = some h →
      exec (.release p tag 1) s = .next (replied p tag (.release 1) .ok (octets 1 0) (endHold r p s)) ∧
      (∀ why, Fails s r h.staging why → (∀ y, Fails s r h.staging y → why.code ≤ y.code) →
        (endHold r p s).config = s.config ∧
        ∃ field ∈ why.fields,
          exec (.release p tag 0) s =
            .next (replied p tag (.release 0) .rejected (octets 1 why.code ++ octets 1 field) (endHold r p s))) ∧
      ((∀ why, ¬ Fails s r h.staging why) → h.staging.kind = (regionOf r).kind →
        ∃ t, Adopted r h.staging s t ∧ t.config = s.config.put (regionOf r) h.staging ∧
          (h.staging = s.config.get (regionOf r) → t = s) ∧
          let timeout := t.config.plant.lockTimeout
          let passed := endHold r p t
          let expire (u : State) (r' : RegionNo) : State :=
            match u.locks[r'].hold with
            | some h' =>
              if h'.lastRequest + 1000 * timeout ≤ s.clock then
                endHold r' h'.port (raiseTo h'.port .lockExpired (some r'.val) u)
              else u
            | none => u
          (timeout = s.config.plant.lockTimeout →
            exec (.release p tag 0) s = .next (replied p tag (.release 0) .ok (octets 1 1) passed)) ∧
          (timeout ≠ s.config.plant.lockTimeout →
            exec (.release p tag 0) s =
              .next (replied p tag (.release 0) .ok (octets 1 1) ((List.finRange 53).foldl expire passed))))) ∧
  (∀ (r : RegionNo) (s : State),
    (s.locks[r].hold = none → exec (.lockExpiry r) s = .next s) ∧
    ∀ h, s.locks[r].hold = some h →
      let due := h.lastRequest + 1000 * s.config.plant.lockTimeout
      (s.clock < due → exec (.lockExpiry r) s = .next s) ∧
      (due ≤ s.clock →
        exec (.lockExpiry r) s = .next (endHold r h.port (raiseTo h.port .lockExpired (some r.val) s)))) ∧
  ∀ (p : Port) (s : State),
    (s.ports[p].atSpace = true → exec (.lineBreak p) s = .next s) ∧
    (s.ports[p].atSpace = false →
      let cut : State := s.setPort p
        { s.ports[p] with receive := .hunting, service := none, held := none, atSpace := true }
      (s.portLocks[p].held = none → s.portLocks[p].waited = none → exec (.lineBreak p) s = .next cut) ∧
      (∀ r, s.portLocks[p].held = some r → s.portLocks[p].waited = none → p ∉ s.locks[r].waitList →
        exec (.lineBreak p) s = .next (endHold r p cut)) ∧
      ∀ r, s.portLocks[p].held = none → s.portLocks[p].waited = some r →
        exec (.lineBreak p) s =
          .next ((cut.setLock r { s.locks[r] with waitList := s.locks[r].waitList.filter (· != p) }).setPortLock p
            { s.portLocks[p] with waited := none }))

/-- For every state in which each port's attention output is asserted exactly while its pending set holds a source of a
level not masked, the same holds after a step. (R180) -/
def Obligations.StepKeepsAttention : Prop :=
  ∀ s t : State, AttentionFollows s → step s = .next t → AttentionFollows t

/-- For every state in which the ring holds at most 48 records with consecutive numbers, the write number follows the
newest, a close in flight carries the number before the open interval's, and every cursor designates a held record
or the write position, the same holds after a step. (R134, R135, R136) -/
def Obligations.StepKeepsTheRing : Prop :=
  ∀ s t : State, RingOrdered s → step s = .next t → RingOrdered t

/-- For every state in which each region has at most one holder whose port record says so, a free region has no waiters,
wait lists name each port once and only ports whose record says they wait there, and no port both holds and waits,
the same holds after a step; a staging copy is of its region's kind. (R157) -/
def Obligations.StepKeepsTheLockTable : Prop :=
  ∀ s t : State, LocksAgree s → step s = .next t → LocksAgree t

/-- For every state in which the mark under prove stands exactly on the channel of a run, that channel is LIVE, channels
are INACTIVE exactly where they are not active, and a poll in flight is of a channel that is not INACTIVE, the same
holds after a step. (R147, R149, R152) -/
def Obligations.StepKeepsTheProver : Prop :=
  ∀ s t : State, ProverAgrees s → step s = .next t → ProverAgrees t

/-- For every state whose bank accumulators and pools are at most 2^48 - 1, campaign accumulators at most 2^56 - 1,
carries below 10^11, proving sums at most 2^64 - 1, pulse counters below 65,536 and failed polls at most 3, the same
holds after a step. (R2, R25, R41, R51, R141, R147) -/
def Obligations.StepKeepsTheWidths : Prop :=
  ∀ s t : State, WithinWidths s → step s = .next t → WithinWidths t

/-- For every state in which each furnace's inventory mass and cullet are the sums over its records, every record holds
some mass and no more than it began with, there are at most 64 records, and a COLD furnace has none, the same holds
after a step. Where besides the serials of each queue increase strictly from the oldest record to the newest and
none is above the last serial, every record's remaining cullet is not above its remaining mass nor its original
cullet above its original mass, serials, last cullet permille and inventory mass are in their ranges, and so is
every opening inventory from which a furnace may start, committed, staged or saved, the same holds after a step.
(R61, R63, R69, R72, R75, R76, R83) -/
def Obligations.StepKeepsTheQueues : Prop :=
  (∀ s t : State, QueuesSound s → step s = .next t → QueuesSound t) ∧
  ∀ s t : State, QueuesSound s → QueuesOrdered s → step s = .next t → QueuesOrdered t

/-- For every state in which each enabled line in PRODUCING, JOB_CHANGE or HOLD_PENDING is fed, as committed, by an
enabled furnace in MELTING, the same holds after a step. (R66, R67, R68, R104, R165) -/
def Obligations.StepKeepsTheFurnacesMelting : Prop :=
  ∀ s t : State, LinesFed s → step s = .next t → LinesFed t

/-- For every state in which, while the open bank's saturated mark is clear, its metered energy equals the producing and
standby energy of its accounts, its common energy and the open pools, and each furnace's pulled mass equals the sum
of the pulled masses of the lines it feeds, as committed, in which nothing has been pulled in STARTING, and in which
no committed entry list is empty, the same holds after a step. (R42, R47, R53, R55, R77, R145, R165) -/
def Obligations.StepKeepsTheBalance : Prop :=
  ∀ s t : State, BooksBalance s → step s = .next t → BooksBalance t

/-- Right after reset the attention outputs follow the pending sets, the ring and the cursors are in order, the lock
table agrees, the prover agrees with the channels, the sums keep their widths, the queues are sound, the queues and
the opening inventories are in order, the working lines are fed by melting furnaces, and the open bank balances. Two
parts rest on the model's choices and on no rule: that the saved inventories of the serial memory are in their
ranges, on the blank image of log entry 4; that every blank entry list has an entry, on log entry 3. The rest
follows from the reset values of each chapter, to which R187 refers. (R187) -/
def Obligations.ResetMeetsTheInvariants : Prop :=
  AttentionFollows State.reset ∧ RingOrdered State.reset ∧ LocksAgree State.reset ∧ ProverAgrees State.reset ∧
    WithinWidths State.reset ∧ QueuesSound State.reset ∧ QueuesOrdered State.reset ∧
    LinesFed State.reset ∧ BooksBalance State.reset
end

