-- ==== Sys2Proof/Laws/State.lean ====
section
/-! SUPPORT. What each setter of `State` leaves in each field, and reading a vector after a write. -/

namespace Sys2Proof.Machine

theorem get_set {α : Type} {n : Nat} (v : Vector α n) (i j : Fin n) (x : α) :
    (v.set i x)[j] = if i = j then x else v[j] := by
  simp [Vector.getElem_set, Fin.ext_iff]

theorem get_set_self {α : Type} {n : Nat} (v : Vector α n) (i : Fin n) (x : α) : (v.set i x)[i] = x := by
  simp

theorem get_set_ne {α : Type} {n : Nat} (v : Vector α n) (i j : Fin n) (x : α) (h : i ≠ j) :
    (v.set i x)[j] = v[j] := by
  rw [get_set, if_neg h]

theorem get_ofFn {α : Type} {n : Nat} (g : Fin n → α) (i : Fin n) : (Vector.ofFn g)[i] = g i := by
  simp

@[simp] theorem State.setChannel_channels (s : State) (c : Chan) (r : ChannelRecord) :
    (s.setChannel c r).channels = s.channels.set c r := rfl
@[simp] theorem State.setChannel_pending (s : State) (c : Chan) (r : ChannelRecord) : (s.setChannel c r).pending = s.pending := rfl
@[simp] theorem State.setChannel_phase (s : State) (c : Chan) (r : ChannelRecord) : (s.setChannel c r).phase = s.phase := rfl
@[simp] theorem State.setChannel_clock (s : State) (c : Chan) (r : ChannelRecord) : (s.setChannel c r).clock = s.clock := rfl
@[simp] theorem State.setChannel_secondDue (s : State) (c : Chan) (r : ChannelRecord) : (s.setChannel c r).secondDue = s.secondDue := rfl
@[simp] theorem State.setChannel_sampleDue (s : State) (c : Chan) (r : ChannelRecord) : (s.setChannel c r).sampleDue = s.sampleDue := rfl
@[simp] theorem State.setChannel_config (s : State) (c : Chan) (r : ChannelRecord) : (s.setChannel c r).config = s.config := rfl
@[simp] theorem State.setChannel_slots (s : State) (c : Chan) (r : ChannelRecord) : (s.setChannel c r).slots = s.slots := rfl
@[simp] theorem State.setChannel_pools (s : State) (c : Chan) (r : ChannelRecord) : (s.setChannel c r).pools = s.pools := rfl
@[simp] theorem State.setChannel_openBank (s : State) (c : Chan) (r : ChannelRecord) : (s.setChannel c r).openBank = s.openBank := rfl
@[simp] theorem State.setChannel_closingBank (s : State) (c : Chan) (r : ChannelRecord) : (s.setChannel c r).closingBank = s.closingBank := rfl
@[simp] theorem State.setChannel_furnaces (s : State) (c : Chan) (r : ChannelRecord) : (s.setChannel c r).furnaces = s.furnaces := rfl
@[simp] theorem State.setChannel_lines (s : State) (c : Chan) (r : ChannelRecord) : (s.setChannel c r).lines = s.lines := rfl
@[simp] theorem State.setChannel_interval (s : State) (c : Chan) (r : ChannelRecord) : (s.setChannel c r).interval = s.interval := rfl
@[simp] theorem State.setChannel_ring (s : State) (c : Chan) (r : ChannelRecord) : (s.setChannel c r).ring = s.ring := rfl
@[simp] theorem State.setChannel_cursors (s : State) (c : Chan) (r : ChannelRecord) : (s.setChannel c r).cursors = s.cursors := rfl
@[simp] theorem State.setChannel_totals (s : State) (c : Chan) (r : ChannelRecord) : (s.setChannel c r).totals = s.totals := rfl
@[simp] theorem State.setChannel_prover (s : State) (c : Chan) (r : ChannelRecord) : (s.setChannel c r).prover = s.prover := rfl
@[simp] theorem State.setChannel_locks (s : State) (c : Chan) (r : ChannelRecord) : (s.setChannel c r).locks = s.locks := rfl
@[simp] theorem State.setChannel_portLocks (s : State) (c : Chan) (r : ChannelRecord) : (s.setChannel c r).portLocks = s.portLocks := rfl
@[simp] theorem State.setChannel_ports (s : State) (c : Chan) (r : ChannelRecord) : (s.setChannel c r).ports = s.ports := rfl
@[simp] theorem State.setChannel_alerts (s : State) (c : Chan) (r : ChannelRecord) : (s.setChannel c r).alerts = s.alerts := rfl
@[simp] theorem State.setChannel_loadFailed (s : State) (c : Chan) (r : ChannelRecord) : (s.setChannel c r).loadFailed = s.loadFailed := rfl
@[simp] theorem State.setChannel_save (s : State) (c : Chan) (r : ChannelRecord) : (s.setChannel c r).save = s.save := rfl
@[simp] theorem State.setChannel_image (s : State) (c : Chan) (r : ChannelRecord) : (s.setChannel c r).image = s.image := rfl

@[simp] theorem State.setSlot_slots (s : State) (sl : Slot) (r : SlotRecord) :
    (s.setSlot sl r).slots = s.slots.set sl r := rfl
@[simp] theorem State.setSlot_pending (s : State) (sl : Slot) (r : SlotRecord) : (s.setSlot sl r).pending = s.pending := rfl
@[simp] theorem State.setSlot_phase (s : State) (sl : Slot) (r : SlotRecord) : (s.setSlot sl r).phase = s.phase := rfl
@[simp] theorem State.setSlot_clock (s : State) (sl : Slot) (r : SlotRecord) : (s.setSlot sl r).clock = s.clock := rfl
@[simp] theorem State.setSlot_secondDue (s : State) (sl : Slot) (r : SlotRecord) : (s.setSlot sl r).secondDue = s.secondDue := rfl
@[simp] theorem State.setSlot_sampleDue (s : State) (sl : Slot) (r : SlotRecord) : (s.setSlot sl r).sampleDue = s.sampleDue := rfl
@[simp] theorem State.setSlot_config (s : State) (sl : Slot) (r : SlotRecord) : (s.setSlot sl r).config = s.config := rfl
@[simp] theorem State.setSlot_channels (s : State) (sl : Slot) (r : SlotRecord) : (s.setSlot sl r).channels = s.channels := rfl
@[simp] theorem State.setSlot_pools (s : State) (sl : Slot) (r : SlotRecord) : (s.setSlot sl r).pools = s.pools := rfl
@[simp] theorem State.setSlot_openBank (s : State) (sl : Slot) (r : SlotRecord) : (s.setSlot sl r).openBank = s.openBank := rfl
@[simp] theorem State.setSlot_closingBank (s : State) (sl : Slot) (r : SlotRecord) : (s.setSlot sl r).closingBank = s.closingBank := rfl
@[simp] theorem State.setSlot_furnaces (s : State) (sl : Slot) (r : SlotRecord) : (s.setSlot sl r).furnaces = s.furnaces := rfl
@[simp] theorem State.setSlot_lines (s : State) (sl : Slot) (r : SlotRecord) : (s.setSlot sl r).lines = s.lines := rfl
@[simp] theorem State.setSlot_interval (s : State) (sl : Slot) (r : SlotRecord) : (s.setSlot sl r).interval = s.interval := rfl
@[simp] theorem State.setSlot_ring (s : State) (sl : Slot) (r : SlotRecord) : (s.setSlot sl r).ring = s.ring := rfl
@[simp] theorem State.setSlot_cursors (s : State) (sl : Slot) (r : SlotRecord) : (s.setSlot sl r).cursors = s.cursors := rfl
@[simp] theorem State.setSlot_totals (s : State) (sl : Slot) (r : SlotRecord) : (s.setSlot sl r).totals = s.totals := rfl
@[simp] theorem State.setSlot_prover (s : State) (sl : Slot) (r : SlotRecord) : (s.setSlot sl r).prover = s.prover := rfl
@[simp] theorem State.setSlot_locks (s : State) (sl : Slot) (r : SlotRecord) : (s.setSlot sl r).locks = s.locks := rfl
@[simp] theorem State.setSlot_portLocks (s : State) (sl : Slot) (r : SlotRecord) : (s.setSlot sl r).portLocks = s.portLocks := rfl
@[simp] theorem State.setSlot_ports (s : State) (sl : Slot) (r : SlotRecord) : (s.setSlot sl r).ports = s.ports := rfl
@[simp] theorem State.setSlot_alerts (s : State) (sl : Slot) (r : SlotRecord) : (s.setSlot sl r).alerts = s.alerts := rfl
@[simp] theorem State.setSlot_loadFailed (s : State) (sl : Slot) (r : SlotRecord) : (s.setSlot sl r).loadFailed = s.loadFailed := rfl
@[simp] theorem State.setSlot_save (s : State) (sl : Slot) (r : SlotRecord) : (s.setSlot sl r).save = s.save := rfl
@[simp] theorem State.setSlot_image (s : State) (sl : Slot) (r : SlotRecord) : (s.setSlot sl r).image = s.image := rfl

@[simp] theorem State.setPool_pools (s : State) (c : Chan) (r : Pool) :
    (s.setPool c r).pools = s.pools.set c r := rfl
@[simp] theorem State.setPool_pending (s : State) (c : Chan) (r : Pool) : (s.setPool c r).pending = s.pending := rfl
@[simp] theorem State.setPool_phase (s : State) (c : Chan) (r : Pool) : (s.setPool c r).phase = s.phase := rfl
@[simp] theorem State.setPool_clock (s : State) (c : Chan) (r : Pool) : (s.setPool c r).clock = s.clock := rfl
@[simp] theorem State.setPool_secondDue (s : State) (c : Chan) (r : Pool) : (s.setPool c r).secondDue = s.secondDue := rfl
@[simp] theorem State.setPool_sampleDue (s : State) (c : Chan) (r : Pool) : (s.setPool c r).sampleDue = s.sampleDue := rfl
@[simp] theorem State.setPool_config (s : State) (c : Chan) (r : Pool) : (s.setPool c r).config = s.config := rfl
@[simp] theorem State.setPool_channels (s : State) (c : Chan) (r : Pool) : (s.setPool c r).channels = s.channels := rfl
@[simp] theorem State.setPool_slots (s : State) (c : Chan) (r : Pool) : (s.setPool c r).slots = s.slots := rfl
@[simp] theorem State.setPool_openBank (s : State) (c : Chan) (r : Pool) : (s.setPool c r).openBank = s.openBank := rfl
@[simp] theorem State.setPool_closingBank (s : State) (c : Chan) (r : Pool) : (s.setPool c r).closingBank = s.closingBank := rfl
@[simp] theorem State.setPool_furnaces (s : State) (c : Chan) (r : Pool) : (s.setPool c r).furnaces = s.furnaces := rfl
@[simp] theorem State.setPool_lines (s : State) (c : Chan) (r : Pool) : (s.setPool c r).lines = s.lines := rfl
@[simp] theorem State.setPool_interval (s : State) (c : Chan) (r : Pool) : (s.setPool c r).interval = s.interval := rfl
@[simp] theorem State.setPool_ring (s : State) (c : Chan) (r : Pool) : (s.setPool c r).ring = s.ring := rfl
@[simp] theorem State.setPool_cursors (s : State) (c : Chan) (r : Pool) : (s.setPool c r).cursors = s.cursors := rfl
@[simp] theorem State.setPool_totals (s : State) (c : Chan) (r : Pool) : (s.setPool c r).totals = s.totals := rfl
@[simp] theorem State.setPool_prover (s : State) (c : Chan) (r : Pool) : (s.setPool c r).prover = s.prover := rfl
@[simp] theorem State.setPool_locks (s : State) (c : Chan) (r : Pool) : (s.setPool c r).locks = s.locks := rfl
@[simp] theorem State.setPool_portLocks (s : State) (c : Chan) (r : Pool) : (s.setPool c r).portLocks = s.portLocks := rfl
@[simp] theorem State.setPool_ports (s : State) (c : Chan) (r : Pool) : (s.setPool c r).ports = s.ports := rfl
@[simp] theorem State.setPool_alerts (s : State) (c : Chan) (r : Pool) : (s.setPool c r).alerts = s.alerts := rfl
@[simp] theorem State.setPool_loadFailed (s : State) (c : Chan) (r : Pool) : (s.setPool c r).loadFailed = s.loadFailed := rfl
@[simp] theorem State.setPool_save (s : State) (c : Chan) (r : Pool) : (s.setPool c r).save = s.save := rfl
@[simp] theorem State.setPool_image (s : State) (c : Chan) (r : Pool) : (s.setPool c r).image = s.image := rfl

@[simp] theorem State.setFurnace_furnaces (s : State) (f : Furnace) (r : FurnaceRecord) :
    (s.setFurnace f r).furnaces = s.furnaces.set f r := rfl
@[simp] theorem State.setFurnace_pending (s : State) (f : Furnace) (r : FurnaceRecord) : (s.setFurnace f r).pending = s.pending := rfl
@[simp] theorem State.setFurnace_phase (s : State) (f : Furnace) (r : FurnaceRecord) : (s.setFurnace f r).phase = s.phase := rfl
@[simp] theorem State.setFurnace_clock (s : State) (f : Furnace) (r : FurnaceRecord) : (s.setFurnace f r).clock = s.clock := rfl
@[simp] theorem State.setFurnace_secondDue (s : State) (f : Furnace) (r : FurnaceRecord) : (s.setFurnace f r).secondDue = s.secondDue := rfl
@[simp] theorem State.setFurnace_sampleDue (s : State) (f : Furnace) (r : FurnaceRecord) : (s.setFurnace f r).sampleDue = s.sampleDue := rfl
@[simp] theorem State.setFurnace_config (s : State) (f : Furnace) (r : FurnaceRecord) : (s.setFurnace f r).config = s.config := rfl
@[simp] theorem State.setFurnace_channels (s : State) (f : Furnace) (r : FurnaceRecord) : (s.setFurnace f r).channels = s.channels := rfl
@[simp] theorem State.setFurnace_slots (s : State) (f : Furnace) (r : FurnaceRecord) : (s.setFurnace f r).slots = s.slots := rfl
@[simp] theorem State.setFurnace_pools (s : State) (f : Furnace) (r : FurnaceRecord) : (s.setFurnace f r).pools = s.pools := rfl
@[simp] theorem State.setFurnace_openBank (s : State) (f : Furnace) (r : FurnaceRecord) : (s.setFurnace f r).openBank = s.openBank := rfl
@[simp] theorem State.setFurnace_closingBank (s : State) (f : Furnace) (r : FurnaceRecord) : (s.setFurnace f r).closingBank = s.closingBank := rfl
@[simp] theorem State.setFurnace_lines (s : State) (f : Furnace) (r : FurnaceRecord) : (s.setFurnace f r).lines = s.lines := rfl
@[simp] theorem State.setFurnace_interval (s : State) (f : Furnace) (r : FurnaceRecord) : (s.setFurnace f r).interval = s.interval := rfl
@[simp] theorem State.setFurnace_ring (s : State) (f : Furnace) (r : FurnaceRecord) : (s.setFurnace f r).ring = s.ring := rfl
@[simp] theorem State.setFurnace_cursors (s : State) (f : Furnace) (r : FurnaceRecord) : (s.setFurnace f r).cursors = s.cursors := rfl
@[simp] theorem State.setFurnace_totals (s : State) (f : Furnace) (r : FurnaceRecord) : (s.setFurnace f r).totals = s.totals := rfl
@[simp] theorem State.setFurnace_prover (s : State) (f : Furnace) (r : FurnaceRecord) : (s.setFurnace f r).prover = s.prover := rfl
@[simp] theorem State.setFurnace_locks (s : State) (f : Furnace) (r : FurnaceRecord) : (s.setFurnace f r).locks = s.locks := rfl
@[simp] theorem State.setFurnace_portLocks (s : State) (f : Furnace) (r : FurnaceRecord) : (s.setFurnace f r).portLocks = s.portLocks := rfl
@[simp] theorem State.setFurnace_ports (s : State) (f : Furnace) (r : FurnaceRecord) : (s.setFurnace f r).ports = s.ports := rfl
@[simp] theorem State.setFurnace_alerts (s : State) (f : Furnace) (r : FurnaceRecord) : (s.setFurnace f r).alerts = s.alerts := rfl
@[simp] theorem State.setFurnace_loadFailed (s : State) (f : Furnace) (r : FurnaceRecord) : (s.setFurnace f r).loadFailed = s.loadFailed := rfl
@[simp] theorem State.setFurnace_save (s : State) (f : Furnace) (r : FurnaceRecord) : (s.setFurnace f r).save = s.save := rfl
@[simp] theorem State.setFurnace_image (s : State) (f : Furnace) (r : FurnaceRecord) : (s.setFurnace f r).image = s.image := rfl

@[simp] theorem State.setLine_lines (s : State) (l : Line) (r : LineRecord) :
    (s.setLine l r).lines = s.lines.set l r := rfl
@[simp] theorem State.setLine_pending (s : State) (l : Line) (r : LineRecord) : (s.setLine l r).pending = s.pending := rfl
@[simp] theorem State.setLine_phase (s : State) (l : Line) (r : LineRecord) : (s.setLine l r).phase = s.phase := rfl
@[simp] theorem State.setLine_clock (s : State) (l : Line) (r : LineRecord) : (s.setLine l r).clock = s.clock := rfl
@[simp] theorem State.setLine_secondDue (s : State) (l : Line) (r : LineRecord) : (s.setLine l r).secondDue = s.secondDue := rfl
@[simp] theorem State.setLine_sampleDue (s : State) (l : Line) (r : LineRecord) : (s.setLine l r).sampleDue = s.sampleDue := rfl
@[simp] theorem State.setLine_config (s : State) (l : Line) (r : LineRecord) : (s.setLine l r).config = s.config := rfl
@[simp] theorem State.setLine_channels (s : State) (l : Line) (r : LineRecord) : (s.setLine l r).channels = s.channels := rfl
@[simp] theorem State.setLine_slots (s : State) (l : Line) (r : LineRecord) : (s.setLine l r).slots = s.slots := rfl
@[simp] theorem State.setLine_pools (s : State) (l : Line) (r : LineRecord) : (s.setLine l r).pools = s.pools := rfl
@[simp] theorem State.setLine_openBank (s : State) (l : Line) (r : LineRecord) : (s.setLine l r).openBank = s.openBank := rfl
@[simp] theorem State.setLine_closingBank (s : State) (l : Line) (r : LineRecord) : (s.setLine l r).closingBank = s.closingBank := rfl
@[simp] theorem State.setLine_furnaces (s : State) (l : Line) (r : LineRecord) : (s.setLine l r).furnaces = s.furnaces := rfl
@[simp] theorem State.setLine_interval (s : State) (l : Line) (r : LineRecord) : (s.setLine l r).interval = s.interval := rfl
@[simp] theorem State.setLine_ring (s : State) (l : Line) (r : LineRecord) : (s.setLine l r).ring = s.ring := rfl
@[simp] theorem State.setLine_cursors (s : State) (l : Line) (r : LineRecord) : (s.setLine l r).cursors = s.cursors := rfl
@[simp] theorem State.setLine_totals (s : State) (l : Line) (r : LineRecord) : (s.setLine l r).totals = s.totals := rfl
@[simp] theorem State.setLine_prover (s : State) (l : Line) (r : LineRecord) : (s.setLine l r).prover = s.prover := rfl
@[simp] theorem State.setLine_locks (s : State) (l : Line) (r : LineRecord) : (s.setLine l r).locks = s.locks := rfl
@[simp] theorem State.setLine_portLocks (s : State) (l : Line) (r : LineRecord) : (s.setLine l r).portLocks = s.portLocks := rfl
@[simp] theorem State.setLine_ports (s : State) (l : Line) (r : LineRecord) : (s.setLine l r).ports = s.ports := rfl
@[simp] theorem State.setLine_alerts (s : State) (l : Line) (r : LineRecord) : (s.setLine l r).alerts = s.alerts := rfl
@[simp] theorem State.setLine_loadFailed (s : State) (l : Line) (r : LineRecord) : (s.setLine l r).loadFailed = s.loadFailed := rfl
@[simp] theorem State.setLine_save (s : State) (l : Line) (r : LineRecord) : (s.setLine l r).save = s.save := rfl
@[simp] theorem State.setLine_image (s : State) (l : Line) (r : LineRecord) : (s.setLine l r).image = s.image := rfl

@[simp] theorem State.setCursor_cursors (s : State) (p : Port) (r : Cursor) :
    (s.setCursor p r).cursors = s.cursors.set p r := rfl
@[simp] theorem State.setCursor_pending (s : State) (p : Port) (r : Cursor) : (s.setCursor p r).pending = s.pending := rfl
@[simp] theorem State.setCursor_phase (s : State) (p : Port) (r : Cursor) : (s.setCursor p r).phase = s.phase := rfl
@[simp] theorem State.setCursor_clock (s : State) (p : Port) (r : Cursor) : (s.setCursor p r).clock = s.clock := rfl
@[simp] theorem State.setCursor_secondDue (s : State) (p : Port) (r : Cursor) : (s.setCursor p r).secondDue = s.secondDue := rfl
@[simp] theorem State.setCursor_sampleDue (s : State) (p : Port) (r : Cursor) : (s.setCursor p r).sampleDue = s.sampleDue := rfl
@[simp] theorem State.setCursor_config (s : State) (p : Port) (r : Cursor) : (s.setCursor p r).config = s.config := rfl
@[simp] theorem State.setCursor_channels (s : State) (p : Port) (r : Cursor) : (s.setCursor p r).channels = s.channels := rfl
@[simp] theorem State.setCursor_slots (s : State) (p : Port) (r : Cursor) : (s.setCursor p r).slots = s.slots := rfl
@[simp] theorem State.setCursor_pools (s : State) (p : Port) (r : Cursor) : (s.setCursor p r).pools = s.pools := rfl
@[simp] theorem State.setCursor_openBank (s : State) (p : Port) (r : Cursor) : (s.setCursor p r).openBank = s.openBank := rfl
@[simp] theorem State.setCursor_closingBank (s : State) (p : Port) (r : Cursor) : (s.setCursor p r).closingBank = s.closingBank := rfl
@[simp] theorem State.setCursor_furnaces (s : State) (p : Port) (r : Cursor) : (s.setCursor p r).furnaces = s.furnaces := rfl
@[simp] theorem State.setCursor_lines (s : State) (p : Port) (r : Cursor) : (s.setCursor p r).lines = s.lines := rfl
@[simp] theorem State.setCursor_interval (s : State) (p : Port) (r : Cursor) : (s.setCursor p r).interval = s.interval := rfl
@[simp] theorem State.setCursor_ring (s : State) (p : Port) (r : Cursor) : (s.setCursor p r).ring = s.ring := rfl
@[simp] theorem State.setCursor_totals (s : State) (p : Port) (r : Cursor) : (s.setCursor p r).totals = s.totals := rfl
@[simp] theorem State.setCursor_prover (s : State) (p : Port) (r : Cursor) : (s.setCursor p r).prover = s.prover := rfl
@[simp] theorem State.setCursor_locks (s : State) (p : Port) (r : Cursor) : (s.setCursor p r).locks = s.locks := rfl
@[simp] theorem State.setCursor_portLocks (s : State) (p : Port) (r : Cursor) : (s.setCursor p r).portLocks = s.portLocks := rfl
@[simp] theorem State.setCursor_ports (s : State) (p : Port) (r : Cursor) : (s.setCursor p r).ports = s.ports := rfl
@[simp] theorem State.setCursor_alerts (s : State) (p : Port) (r : Cursor) : (s.setCursor p r).alerts = s.alerts := rfl
@[simp] theorem State.setCursor_loadFailed (s : State) (p : Port) (r : Cursor) : (s.setCursor p r).loadFailed = s.loadFailed := rfl
@[simp] theorem State.setCursor_save (s : State) (p : Port) (r : Cursor) : (s.setCursor p r).save = s.save := rfl
@[simp] theorem State.setCursor_image (s : State) (p : Port) (r : Cursor) : (s.setCursor p r).image = s.image := rfl

@[simp] theorem State.setLock_locks (s : State) (n : RegionNo) (r : LockRecord) :
    (s.setLock n r).locks = s.locks.set n r := rfl
@[simp] theorem State.setLock_pending (s : State) (n : RegionNo) (r : LockRecord) : (s.setLock n r).pending = s.pending := rfl
@[simp] theorem State.setLock_phase (s : State) (n : RegionNo) (r : LockRecord) : (s.setLock n r).phase = s.phase := rfl
@[simp] theorem State.setLock_clock (s : State) (n : RegionNo) (r : LockRecord) : (s.setLock n r).clock = s.clock := rfl
@[simp] theorem State.setLock_secondDue (s : State) (n : RegionNo) (r : LockRecord) : (s.setLock n r).secondDue = s.secondDue := rfl
@[simp] theorem State.setLock_sampleDue (s : State) (n : RegionNo) (r : LockRecord) : (s.setLock n r).sampleDue = s.sampleDue := rfl
@[simp] theorem State.setLock_config (s : State) (n : RegionNo) (r : LockRecord) : (s.setLock n r).config = s.config := rfl
@[simp] theorem State.setLock_channels (s : State) (n : RegionNo) (r : LockRecord) : (s.setLock n r).channels = s.channels := rfl
@[simp] theorem State.setLock_slots (s : State) (n : RegionNo) (r : LockRecord) : (s.setLock n r).slots = s.slots := rfl
@[simp] theorem State.setLock_pools (s : State) (n : RegionNo) (r : LockRecord) : (s.setLock n r).pools = s.pools := rfl
@[simp] theorem State.setLock_openBank (s : State) (n : RegionNo) (r : LockRecord) : (s.setLock n r).openBank = s.openBank := rfl
@[simp] theorem State.setLock_closingBank (s : State) (n : RegionNo) (r : LockRecord) : (s.setLock n r).closingBank = s.closingBank := rfl
@[simp] theorem State.setLock_furnaces (s : State) (n : RegionNo) (r : LockRecord) : (s.setLock n r).furnaces = s.furnaces := rfl
@[simp] theorem State.setLock_lines (s : State) (n : RegionNo) (r : LockRecord) : (s.setLock n r).lines = s.lines := rfl
@[simp] theorem State.setLock_interval (s : State) (n : RegionNo) (r : LockRecord) : (s.setLock n r).interval = s.interval := rfl
@[simp] theorem State.setLock_ring (s : State) (n : RegionNo) (r : LockRecord) : (s.setLock n r).ring = s.ring := rfl
@[simp] theorem State.setLock_cursors (s : State) (n : RegionNo) (r : LockRecord) : (s.setLock n r).cursors = s.cursors := rfl
@[simp] theorem State.setLock_totals (s : State) (n : RegionNo) (r : LockRecord) : (s.setLock n r).totals = s.totals := rfl
@[simp] theorem State.setLock_prover (s : State) (n : RegionNo) (r : LockRecord) : (s.setLock n r).prover = s.prover := rfl
@[simp] theorem State.setLock_portLocks (s : State) (n : RegionNo) (r : LockRecord) : (s.setLock n r).portLocks = s.portLocks := rfl
@[simp] theorem State.setLock_ports (s : State) (n : RegionNo) (r : LockRecord) : (s.setLock n r).ports = s.ports := rfl
@[simp] theorem State.setLock_alerts (s : State) (n : RegionNo) (r : LockRecord) : (s.setLock n r).alerts = s.alerts := rfl
@[simp] theorem State.setLock_loadFailed (s : State) (n : RegionNo) (r : LockRecord) : (s.setLock n r).loadFailed = s.loadFailed := rfl
@[simp] theorem State.setLock_save (s : State) (n : RegionNo) (r : LockRecord) : (s.setLock n r).save = s.save := rfl
@[simp] theorem State.setLock_image (s : State) (n : RegionNo) (r : LockRecord) : (s.setLock n r).image = s.image := rfl

@[simp] theorem State.setPortLock_portLocks (s : State) (p : Port) (r : PortLock) :
    (s.setPortLock p r).portLocks = s.portLocks.set p r := rfl
@[simp] theorem State.setPortLock_pending (s : State) (p : Port) (r : PortLock) : (s.setPortLock p r).pending = s.pending := rfl
@[simp] theorem State.setPortLock_phase (s : State) (p : Port) (r : PortLock) : (s.setPortLock p r).phase = s.phase := rfl
@[simp] theorem State.setPortLock_clock (s : State) (p : Port) (r : PortLock) : (s.setPortLock p r).clock = s.clock := rfl
@[simp] theorem State.setPortLock_secondDue (s : State) (p : Port) (r : PortLock) : (s.setPortLock p r).secondDue = s.secondDue := rfl
@[simp] theorem State.setPortLock_sampleDue (s : State) (p : Port) (r : PortLock) : (s.setPortLock p r).sampleDue = s.sampleDue := rfl
@[simp] theorem State.setPortLock_config (s : State) (p : Port) (r : PortLock) : (s.setPortLock p r).config = s.config := rfl
@[simp] theorem State.setPortLock_channels (s : State) (p : Port) (r : PortLock) : (s.setPortLock p r).channels = s.channels := rfl
@[simp] theorem State.setPortLock_slots (s : State) (p : Port) (r : PortLock) : (s.setPortLock p r).slots = s.slots := rfl
@[simp] theorem State.setPortLock_pools (s : State) (p : Port) (r : PortLock) : (s.setPortLock p r).pools = s.pools := rfl
@[simp] theorem State.setPortLock_openBank (s : State) (p : Port) (r : PortLock) : (s.setPortLock p r).openBank = s.openBank := rfl
@[simp] theorem State.setPortLock_closingBank (s : State) (p : Port) (r : PortLock) : (s.setPortLock p r).closingBank = s.closingBank := rfl
@[simp] theorem State.setPortLock_furnaces (s : State) (p : Port) (r : PortLock) : (s.setPortLock p r).furnaces = s.furnaces := rfl
@[simp] theorem State.setPortLock_lines (s : State) (p : Port) (r : PortLock) : (s.setPortLock p r).lines = s.lines := rfl
@[simp] theorem State.setPortLock_interval (s : State) (p : Port) (r : PortLock) : (s.setPortLock p r).interval = s.interval := rfl
@[simp] theorem State.setPortLock_ring (s : State) (p : Port) (r : PortLock) : (s.setPortLock p r).ring = s.ring := rfl
@[simp] theorem State.setPortLock_cursors (s : State) (p : Port) (r : PortLock) : (s.setPortLock p r).cursors = s.cursors := rfl
@[simp] theorem State.setPortLock_totals (s : State) (p : Port) (r : PortLock) : (s.setPortLock p r).totals = s.totals := rfl
@[simp] theorem State.setPortLock_prover (s : State) (p : Port) (r : PortLock) : (s.setPortLock p r).prover = s.prover := rfl
@[simp] theorem State.setPortLock_locks (s : State) (p : Port) (r : PortLock) : (s.setPortLock p r).locks = s.locks := rfl
@[simp] theorem State.setPortLock_ports (s : State) (p : Port) (r : PortLock) : (s.setPortLock p r).ports = s.ports := rfl
@[simp] theorem State.setPortLock_alerts (s : State) (p : Port) (r : PortLock) : (s.setPortLock p r).alerts = s.alerts := rfl
@[simp] theorem State.setPortLock_loadFailed (s : State) (p : Port) (r : PortLock) : (s.setPortLock p r).loadFailed = s.loadFailed := rfl
@[simp] theorem State.setPortLock_save (s : State) (p : Port) (r : PortLock) : (s.setPortLock p r).save = s.save := rfl
@[simp] theorem State.setPortLock_image (s : State) (p : Port) (r : PortLock) : (s.setPortLock p r).image = s.image := rfl

@[simp] theorem State.setPort_ports (s : State) (p : Port) (r : PortRecord) :
    (s.setPort p r).ports = s.ports.set p r := rfl
@[simp] theorem State.setPort_pending (s : State) (p : Port) (r : PortRecord) : (s.setPort p r).pending = s.pending := rfl
@[simp] theorem State.setPort_phase (s : State) (p : Port) (r : PortRecord) : (s.setPort p r).phase = s.phase := rfl
@[simp] theorem State.setPort_clock (s : State) (p : Port) (r : PortRecord) : (s.setPort p r).clock = s.clock := rfl
@[simp] theorem State.setPort_secondDue (s : State) (p : Port) (r : PortRecord) : (s.setPort p r).secondDue = s.secondDue := rfl
@[simp] theorem State.setPort_sampleDue (s : State) (p : Port) (r : PortRecord) : (s.setPort p r).sampleDue = s.sampleDue := rfl
@[simp] theorem State.setPort_config (s : State) (p : Port) (r : PortRecord) : (s.setPort p r).config = s.config := rfl
@[simp] theorem State.setPort_channels (s : State) (p : Port) (r : PortRecord) : (s.setPort p r).channels = s.channels := rfl
@[simp] theorem State.setPort_slots (s : State) (p : Port) (r : PortRecord) : (s.setPort p r).slots = s.slots := rfl
@[simp] theorem State.setPort_pools (s : State) (p : Port) (r : PortRecord) : (s.setPort p r).pools = s.pools := rfl
@[simp] theorem State.setPort_openBank (s : State) (p : Port) (r : PortRecord) : (s.setPort p r).openBank = s.openBank := rfl
@[simp] theorem State.setPort_closingBank (s : State) (p : Port) (r : PortRecord) : (s.setPort p r).closingBank = s.closingBank := rfl
@[simp] theorem State.setPort_furnaces (s : State) (p : Port) (r : PortRecord) : (s.setPort p r).furnaces = s.furnaces := rfl
@[simp] theorem State.setPort_lines (s : State) (p : Port) (r : PortRecord) : (s.setPort p r).lines = s.lines := rfl
@[simp] theorem State.setPort_interval (s : State) (p : Port) (r : PortRecord) : (s.setPort p r).interval = s.interval := rfl
@[simp] theorem State.setPort_ring (s : State) (p : Port) (r : PortRecord) : (s.setPort p r).ring = s.ring := rfl
@[simp] theorem State.setPort_cursors (s : State) (p : Port) (r : PortRecord) : (s.setPort p r).cursors = s.cursors := rfl
@[simp] theorem State.setPort_totals (s : State) (p : Port) (r : PortRecord) : (s.setPort p r).totals = s.totals := rfl
@[simp] theorem State.setPort_prover (s : State) (p : Port) (r : PortRecord) : (s.setPort p r).prover = s.prover := rfl
@[simp] theorem State.setPort_locks (s : State) (p : Port) (r : PortRecord) : (s.setPort p r).locks = s.locks := rfl
@[simp] theorem State.setPort_portLocks (s : State) (p : Port) (r : PortRecord) : (s.setPort p r).portLocks = s.portLocks := rfl
@[simp] theorem State.setPort_alerts (s : State) (p : Port) (r : PortRecord) : (s.setPort p r).alerts = s.alerts := rfl
@[simp] theorem State.setPort_loadFailed (s : State) (p : Port) (r : PortRecord) : (s.setPort p r).loadFailed = s.loadFailed := rfl
@[simp] theorem State.setPort_save (s : State) (p : Port) (r : PortRecord) : (s.setPort p r).save = s.save := rfl
@[simp] theorem State.setPort_image (s : State) (p : Port) (r : PortRecord) : (s.setPort p r).image = s.image := rfl

@[simp] theorem State.setOpenBank_openBank (s : State) (r : Bank) :
    (s.setOpenBank r).openBank = r := rfl
@[simp] theorem State.setOpenBank_pending (s : State) (r : Bank) : (s.setOpenBank r).pending = s.pending := rfl
@[simp] theorem State.setOpenBank_phase (s : State) (r : Bank) : (s.setOpenBank r).phase = s.phase := rfl
@[simp] theorem State.setOpenBank_clock (s : State) (r : Bank) : (s.setOpenBank r).clock = s.clock := rfl
@[simp] theorem State.setOpenBank_secondDue (s : State) (r : Bank) : (s.setOpenBank r).secondDue = s.secondDue := rfl
@[simp] theorem State.setOpenBank_sampleDue (s : State) (r : Bank) : (s.setOpenBank r).sampleDue = s.sampleDue := rfl
@[simp] theorem State.setOpenBank_config (s : State) (r : Bank) : (s.setOpenBank r).config = s.config := rfl
@[simp] theorem State.setOpenBank_channels (s : State) (r : Bank) : (s.setOpenBank r).channels = s.channels := rfl
@[simp] theorem State.setOpenBank_slots (s : State) (r : Bank) : (s.setOpenBank r).slots = s.slots := rfl
@[simp] theorem State.setOpenBank_pools (s : State) (r : Bank) : (s.setOpenBank r).pools = s.pools := rfl
@[simp] theorem State.setOpenBank_closingBank (s : State) (r : Bank) : (s.setOpenBank r).closingBank = s.closingBank := rfl
@[simp] theorem State.setOpenBank_furnaces (s : State) (r : Bank) : (s.setOpenBank r).furnaces = s.furnaces := rfl
@[simp] theorem State.setOpenBank_lines (s : State) (r : Bank) : (s.setOpenBank r).lines = s.lines := rfl
@[simp] theorem State.setOpenBank_interval (s : State) (r : Bank) : (s.setOpenBank r).interval = s.interval := rfl
@[simp] theorem State.setOpenBank_ring (s : State) (r : Bank) : (s.setOpenBank r).ring = s.ring := rfl
@[simp] theorem State.setOpenBank_cursors (s : State) (r : Bank) : (s.setOpenBank r).cursors = s.cursors := rfl
@[simp] theorem State.setOpenBank_totals (s : State) (r : Bank) : (s.setOpenBank r).totals = s.totals := rfl
@[simp] theorem State.setOpenBank_prover (s : State) (r : Bank) : (s.setOpenBank r).prover = s.prover := rfl
@[simp] theorem State.setOpenBank_locks (s : State) (r : Bank) : (s.setOpenBank r).locks = s.locks := rfl
@[simp] theorem State.setOpenBank_portLocks (s : State) (r : Bank) : (s.setOpenBank r).portLocks = s.portLocks := rfl
@[simp] theorem State.setOpenBank_ports (s : State) (r : Bank) : (s.setOpenBank r).ports = s.ports := rfl
@[simp] theorem State.setOpenBank_alerts (s : State) (r : Bank) : (s.setOpenBank r).alerts = s.alerts := rfl
@[simp] theorem State.setOpenBank_loadFailed (s : State) (r : Bank) : (s.setOpenBank r).loadFailed = s.loadFailed := rfl
@[simp] theorem State.setOpenBank_save (s : State) (r : Bank) : (s.setOpenBank r).save = s.save := rfl
@[simp] theorem State.setOpenBank_image (s : State) (r : Bank) : (s.setOpenBank r).image = s.image := rfl

@[simp] theorem State.setClosingBank_closingBank (s : State) (r : Bank) :
    (s.setClosingBank r).closingBank = r := rfl
@[simp] theorem State.setClosingBank_pending (s : State) (r : Bank) : (s.setClosingBank r).pending = s.pending := rfl
@[simp] theorem State.setClosingBank_phase (s : State) (r : Bank) : (s.setClosingBank r).phase = s.phase := rfl
@[simp] theorem State.setClosingBank_clock (s : State) (r : Bank) : (s.setClosingBank r).clock = s.clock := rfl
@[simp] theorem State.setClosingBank_secondDue (s : State) (r : Bank) : (s.setClosingBank r).secondDue = s.secondDue := rfl
@[simp] theorem State.setClosingBank_sampleDue (s : State) (r : Bank) : (s.setClosingBank r).sampleDue = s.sampleDue := rfl
@[simp] theorem State.setClosingBank_config (s : State) (r : Bank) : (s.setClosingBank r).config = s.config := rfl
@[simp] theorem State.setClosingBank_channels (s : State) (r : Bank) : (s.setClosingBank r).channels = s.channels := rfl
@[simp] theorem State.setClosingBank_slots (s : State) (r : Bank) : (s.setClosingBank r).slots = s.slots := rfl
@[simp] theorem State.setClosingBank_pools (s : State) (r : Bank) : (s.setClosingBank r).pools = s.pools := rfl
@[simp] theorem State.setClosingBank_openBank (s : State) (r : Bank) : (s.setClosingBank r).openBank = s.openBank := rfl
@[simp] theorem State.setClosingBank_furnaces (s : State) (r : Bank) : (s.setClosingBank r).furnaces = s.furnaces := rfl
@[simp] theorem State.setClosingBank_lines (s : State) (r : Bank) : (s.setClosingBank r).lines = s.lines := rfl
@[simp] theorem State.setClosingBank_interval (s : State) (r : Bank) : (s.setClosingBank r).interval = s.interval := rfl
@[simp] theorem State.setClosingBank_ring (s : State) (r : Bank) : (s.setClosingBank r).ring = s.ring := rfl
@[simp] theorem State.setClosingBank_cursors (s : State) (r : Bank) : (s.setClosingBank r).cursors = s.cursors := rfl
@[simp] theorem State.setClosingBank_totals (s : State) (r : Bank) : (s.setClosingBank r).totals = s.totals := rfl
@[simp] theorem State.setClosingBank_prover (s : State) (r : Bank) : (s.setClosingBank r).prover = s.prover := rfl
@[simp] theorem State.setClosingBank_locks (s : State) (r : Bank) : (s.setClosingBank r).locks = s.locks := rfl
@[simp] theorem State.setClosingBank_portLocks (s : State) (r : Bank) : (s.setClosingBank r).portLocks = s.portLocks := rfl
@[simp] theorem State.setClosingBank_ports (s : State) (r : Bank) : (s.setClosingBank r).ports = s.ports := rfl
@[simp] theorem State.setClosingBank_alerts (s : State) (r : Bank) : (s.setClosingBank r).alerts = s.alerts := rfl
@[simp] theorem State.setClosingBank_loadFailed (s : State) (r : Bank) : (s.setClosingBank r).loadFailed = s.loadFailed := rfl
@[simp] theorem State.setClosingBank_save (s : State) (r : Bank) : (s.setClosingBank r).save = s.save := rfl
@[simp] theorem State.setClosingBank_image (s : State) (r : Bank) : (s.setClosingBank r).image = s.image := rfl

@[simp] theorem State.setInterval_interval (s : State) (r : IntervalRecord) :
    (s.setInterval r).interval = r := rfl
@[simp] theorem State.setInterval_pending (s : State) (r : IntervalRecord) : (s.setInterval r).pending = s.pending := rfl
@[simp] theorem State.setInterval_phase (s : State) (r : IntervalRecord) : (s.setInterval r).phase = s.phase := rfl
@[simp] theorem State.setInterval_clock (s : State) (r : IntervalRecord) : (s.setInterval r).clock = s.clock := rfl
@[simp] theorem State.setInterval_secondDue (s : State) (r : IntervalRecord) : (s.setInterval r).secondDue = s.secondDue := rfl
@[simp] theorem State.setInterval_sampleDue (s : State) (r : IntervalRecord) : (s.setInterval r).sampleDue = s.sampleDue := rfl
@[simp] theorem State.setInterval_config (s : State) (r : IntervalRecord) : (s.setInterval r).config = s.config := rfl
@[simp] theorem State.setInterval_channels (s : State) (r : IntervalRecord) : (s.setInterval r).channels = s.channels := rfl
@[simp] theorem State.setInterval_slots (s : State) (r : IntervalRecord) : (s.setInterval r).slots = s.slots := rfl
@[simp] theorem State.setInterval_pools (s : State) (r : IntervalRecord) : (s.setInterval r).pools = s.pools := rfl
@[simp] theorem State.setInterval_openBank (s : State) (r : IntervalRecord) : (s.setInterval r).openBank = s.openBank := rfl
@[simp] theorem State.setInterval_closingBank (s : State) (r : IntervalRecord) : (s.setInterval r).closingBank = s.closingBank := rfl
@[simp] theorem State.setInterval_furnaces (s : State) (r : IntervalRecord) : (s.setInterval r).furnaces = s.furnaces := rfl
@[simp] theorem State.setInterval_lines (s : State) (r : IntervalRecord) : (s.setInterval r).lines = s.lines := rfl
@[simp] theorem State.setInterval_ring (s : State) (r : IntervalRecord) : (s.setInterval r).ring = s.ring := rfl
@[simp] theorem State.setInterval_cursors (s : State) (r : IntervalRecord) : (s.setInterval r).cursors = s.cursors := rfl
@[simp] theorem State.setInterval_totals (s : State) (r : IntervalRecord) : (s.setInterval r).totals = s.totals := rfl
@[simp] theorem State.setInterval_prover (s : State) (r : IntervalRecord) : (s.setInterval r).prover = s.prover := rfl
@[simp] theorem State.setInterval_locks (s : State) (r : IntervalRecord) : (s.setInterval r).locks = s.locks := rfl
@[simp] theorem State.setInterval_portLocks (s : State) (r : IntervalRecord) : (s.setInterval r).portLocks = s.portLocks := rfl
@[simp] theorem State.setInterval_ports (s : State) (r : IntervalRecord) : (s.setInterval r).ports = s.ports := rfl
@[simp] theorem State.setInterval_alerts (s : State) (r : IntervalRecord) : (s.setInterval r).alerts = s.alerts := rfl
@[simp] theorem State.setInterval_loadFailed (s : State) (r : IntervalRecord) : (s.setInterval r).loadFailed = s.loadFailed := rfl
@[simp] theorem State.setInterval_save (s : State) (r : IntervalRecord) : (s.setInterval r).save = s.save := rfl
@[simp] theorem State.setInterval_image (s : State) (r : IntervalRecord) : (s.setInterval r).image = s.image := rfl

@[simp] theorem State.setProver_prover (s : State) (r : Prover) :
    (s.setProver r).prover = r := rfl
@[simp] theorem State.setProver_pending (s : State) (r : Prover) : (s.setProver r).pending = s.pending := rfl
@[simp] theorem State.setProver_phase (s : State) (r : Prover) : (s.setProver r).phase = s.phase := rfl
@[simp] theorem State.setProver_clock (s : State) (r : Prover) : (s.setProver r).clock = s.clock := rfl
@[simp] theorem State.setProver_secondDue (s : State) (r : Prover) : (s.setProver r).secondDue = s.secondDue := rfl
@[simp] theorem State.setProver_sampleDue (s : State) (r : Prover) : (s.setProver r).sampleDue = s.sampleDue := rfl
@[simp] theorem State.setProver_config (s : State) (r : Prover) : (s.setProver r).config = s.config := rfl
@[simp] theorem State.setProver_channels (s : State) (r : Prover) : (s.setProver r).channels = s.channels := rfl
@[simp] theorem State.setProver_slots (s : State) (r : Prover) : (s.setProver r).slots = s.slots := rfl
@[simp] theorem State.setProver_pools (s : State) (r : Prover) : (s.setProver r).pools = s.pools := rfl
@[simp] theorem State.setProver_openBank (s : State) (r : Prover) : (s.setProver r).openBank = s.openBank := rfl
@[simp] theorem State.setProver_closingBank (s : State) (r : Prover) : (s.setProver r).closingBank = s.closingBank := rfl
@[simp] theorem State.setProver_furnaces (s : State) (r : Prover) : (s.setProver r).furnaces = s.furnaces := rfl
@[simp] theorem State.setProver_lines (s : State) (r : Prover) : (s.setProver r).lines = s.lines := rfl
@[simp] theorem State.setProver_interval (s : State) (r : Prover) : (s.setProver r).interval = s.interval := rfl
@[simp] theorem State.setProver_ring (s : State) (r : Prover) : (s.setProver r).ring = s.ring := rfl
@[simp] theorem State.setProver_cursors (s : State) (r : Prover) : (s.setProver r).cursors = s.cursors := rfl
@[simp] theorem State.setProver_totals (s : State) (r : Prover) : (s.setProver r).totals = s.totals := rfl
@[simp] theorem State.setProver_locks (s : State) (r : Prover) : (s.setProver r).locks = s.locks := rfl
@[simp] theorem State.setProver_portLocks (s : State) (r : Prover) : (s.setProver r).portLocks = s.portLocks := rfl
@[simp] theorem State.setProver_ports (s : State) (r : Prover) : (s.setProver r).ports = s.ports := rfl
@[simp] theorem State.setProver_alerts (s : State) (r : Prover) : (s.setProver r).alerts = s.alerts := rfl
@[simp] theorem State.setProver_loadFailed (s : State) (r : Prover) : (s.setProver r).loadFailed = s.loadFailed := rfl
@[simp] theorem State.setProver_save (s : State) (r : Prover) : (s.setProver r).save = s.save := rfl
@[simp] theorem State.setProver_image (s : State) (r : Prover) : (s.setProver r).image = s.image := rfl

@[simp] theorem State.setConfig_config (s : State) (r : Configuration) :
    (s.setConfig r).config = r := rfl
@[simp] theorem State.setConfig_pending (s : State) (r : Configuration) : (s.setConfig r).pending = s.pending := rfl
@[simp] theorem State.setConfig_phase (s : State) (r : Configuration) : (s.setConfig r).phase = s.phase := rfl
@[simp] theorem State.setConfig_clock (s : State) (r : Configuration) : (s.setConfig r).clock = s.clock := rfl
@[simp] theorem State.setConfig_secondDue (s : State) (r : Configuration) : (s.setConfig r).secondDue = s.secondDue := rfl
@[simp] theorem State.setConfig_sampleDue (s : State) (r : Configuration) : (s.setConfig r).sampleDue = s.sampleDue := rfl
@[simp] theorem State.setConfig_channels (s : State) (r : Configuration) : (s.setConfig r).channels = s.channels := rfl
@[simp] theorem State.setConfig_slots (s : State) (r : Configuration) : (s.setConfig r).slots = s.slots := rfl
@[simp] theorem State.setConfig_pools (s : State) (r : Configuration) : (s.setConfig r).pools = s.pools := rfl
@[simp] theorem State.setConfig_openBank (s : State) (r : Configuration) : (s.setConfig r).openBank = s.openBank := rfl
@[simp] theorem State.setConfig_closingBank (s : State) (r : Configuration) : (s.setConfig r).closingBank = s.closingBank := rfl
@[simp] theorem State.setConfig_furnaces (s : State) (r : Configuration) : (s.setConfig r).furnaces = s.furnaces := rfl
@[simp] theorem State.setConfig_lines (s : State) (r : Configuration) : (s.setConfig r).lines = s.lines := rfl
@[simp] theorem State.setConfig_interval (s : State) (r : Configuration) : (s.setConfig r).interval = s.interval := rfl
@[simp] theorem State.setConfig_ring (s : State) (r : Configuration) : (s.setConfig r).ring = s.ring := rfl
@[simp] theorem State.setConfig_cursors (s : State) (r : Configuration) : (s.setConfig r).cursors = s.cursors := rfl
@[simp] theorem State.setConfig_totals (s : State) (r : Configuration) : (s.setConfig r).totals = s.totals := rfl
@[simp] theorem State.setConfig_prover (s : State) (r : Configuration) : (s.setConfig r).prover = s.prover := rfl
@[simp] theorem State.setConfig_locks (s : State) (r : Configuration) : (s.setConfig r).locks = s.locks := rfl
@[simp] theorem State.setConfig_portLocks (s : State) (r : Configuration) : (s.setConfig r).portLocks = s.portLocks := rfl
@[simp] theorem State.setConfig_ports (s : State) (r : Configuration) : (s.setConfig r).ports = s.ports := rfl
@[simp] theorem State.setConfig_alerts (s : State) (r : Configuration) : (s.setConfig r).alerts = s.alerts := rfl
@[simp] theorem State.setConfig_loadFailed (s : State) (r : Configuration) : (s.setConfig r).loadFailed = s.loadFailed := rfl
@[simp] theorem State.setConfig_save (s : State) (r : Configuration) : (s.setConfig r).save = s.save := rfl
@[simp] theorem State.setConfig_image (s : State) (r : Configuration) : (s.setConfig r).image = s.image := rfl

@[simp] theorem State.setTotals_totals (s : State) (r : Totals) :
    (s.setTotals r).totals = r := rfl
@[simp] theorem State.setTotals_pending (s : State) (r : Totals) : (s.setTotals r).pending = s.pending := rfl
@[simp] theorem State.setTotals_phase (s : State) (r : Totals) : (s.setTotals r).phase = s.phase := rfl
@[simp] theorem State.setTotals_clock (s : State) (r : Totals) : (s.setTotals r).clock = s.clock := rfl
@[simp] theorem State.setTotals_secondDue (s : State) (r : Totals) : (s.setTotals r).secondDue = s.secondDue := rfl
@[simp] theorem State.setTotals_sampleDue (s : State) (r : Totals) : (s.setTotals r).sampleDue = s.sampleDue := rfl
@[simp] theorem State.setTotals_config (s : State) (r : Totals) : (s.setTotals r).config = s.config := rfl
@[simp] theorem State.setTotals_channels (s : State) (r : Totals) : (s.setTotals r).channels = s.channels := rfl
@[simp] theorem State.setTotals_slots (s : State) (r : Totals) : (s.setTotals r).slots = s.slots := rfl
@[simp] theorem State.setTotals_pools (s : State) (r : Totals) : (s.setTotals r).pools = s.pools := rfl
@[simp] theorem State.setTotals_openBank (s : State) (r : Totals) : (s.setTotals r).openBank = s.openBank := rfl
@[simp] theorem State.setTotals_closingBank (s : State) (r : Totals) : (s.setTotals r).closingBank = s.closingBank := rfl
@[simp] theorem State.setTotals_furnaces (s : State) (r : Totals) : (s.setTotals r).furnaces = s.furnaces := rfl
@[simp] theorem State.setTotals_lines (s : State) (r : Totals) : (s.setTotals r).lines = s.lines := rfl
@[simp] theorem State.setTotals_interval (s : State) (r : Totals) : (s.setTotals r).interval = s.interval := rfl
@[simp] theorem State.setTotals_ring (s : State) (r : Totals) : (s.setTotals r).ring = s.ring := rfl
@[simp] theorem State.setTotals_cursors (s : State) (r : Totals) : (s.setTotals r).cursors = s.cursors := rfl
@[simp] theorem State.setTotals_prover (s : State) (r : Totals) : (s.setTotals r).prover = s.prover := rfl
@[simp] theorem State.setTotals_locks (s : State) (r : Totals) : (s.setTotals r).locks = s.locks := rfl
@[simp] theorem State.setTotals_portLocks (s : State) (r : Totals) : (s.setTotals r).portLocks = s.portLocks := rfl
@[simp] theorem State.setTotals_ports (s : State) (r : Totals) : (s.setTotals r).ports = s.ports := rfl
@[simp] theorem State.setTotals_alerts (s : State) (r : Totals) : (s.setTotals r).alerts = s.alerts := rfl
@[simp] theorem State.setTotals_loadFailed (s : State) (r : Totals) : (s.setTotals r).loadFailed = s.loadFailed := rfl
@[simp] theorem State.setTotals_save (s : State) (r : Totals) : (s.setTotals r).save = s.save := rfl
@[simp] theorem State.setTotals_image (s : State) (r : Totals) : (s.setTotals r).image = s.image := rfl

@[simp] theorem State.reach_clock (s : State) (t : Nat) : (s.reach t).clock = max s.clock t := rfl
@[simp] theorem State.reach_pending (s : State) (t : Nat) : (s.reach t).pending = s.pending := rfl
@[simp] theorem State.reach_phase (s : State) (t : Nat) : (s.reach t).phase = s.phase := rfl
@[simp] theorem State.reach_secondDue (s : State) (t : Nat) : (s.reach t).secondDue = s.secondDue := rfl
@[simp] theorem State.reach_sampleDue (s : State) (t : Nat) : (s.reach t).sampleDue = s.sampleDue := rfl
@[simp] theorem State.reach_config (s : State) (t : Nat) : (s.reach t).config = s.config := rfl
@[simp] theorem State.reach_channels (s : State) (t : Nat) : (s.reach t).channels = s.channels := rfl
@[simp] theorem State.reach_slots (s : State) (t : Nat) : (s.reach t).slots = s.slots := rfl
@[simp] theorem State.reach_pools (s : State) (t : Nat) : (s.reach t).pools = s.pools := rfl
@[simp] theorem State.reach_openBank (s : State) (t : Nat) : (s.reach t).openBank = s.openBank := rfl
@[simp] theorem State.reach_closingBank (s : State) (t : Nat) : (s.reach t).closingBank = s.closingBank := rfl
@[simp] theorem State.reach_furnaces (s : State) (t : Nat) : (s.reach t).furnaces = s.furnaces := rfl
@[simp] theorem State.reach_lines (s : State) (t : Nat) : (s.reach t).lines = s.lines := rfl
@[simp] theorem State.reach_interval (s : State) (t : Nat) : (s.reach t).interval = s.interval := rfl
@[simp] theorem State.reach_ring (s : State) (t : Nat) : (s.reach t).ring = s.ring := rfl
@[simp] theorem State.reach_cursors (s : State) (t : Nat) : (s.reach t).cursors = s.cursors := rfl
@[simp] theorem State.reach_totals (s : State) (t : Nat) : (s.reach t).totals = s.totals := rfl
@[simp] theorem State.reach_prover (s : State) (t : Nat) : (s.reach t).prover = s.prover := rfl
@[simp] theorem State.reach_locks (s : State) (t : Nat) : (s.reach t).locks = s.locks := rfl
@[simp] theorem State.reach_portLocks (s : State) (t : Nat) : (s.reach t).portLocks = s.portLocks := rfl
@[simp] theorem State.reach_ports (s : State) (t : Nat) : (s.reach t).ports = s.ports := rfl
@[simp] theorem State.reach_alerts (s : State) (t : Nat) : (s.reach t).alerts = s.alerts := rfl
@[simp] theorem State.reach_loadFailed (s : State) (t : Nat) : (s.reach t).loadFailed = s.loadFailed := rfl
@[simp] theorem State.reach_save (s : State) (t : Nat) : (s.reach t).save = s.save := rfl
@[simp] theorem State.reach_image (s : State) (t : Nat) : (s.reach t).image = s.image := rfl

end Sys2Proof.Machine
end

