-- ==== Sys2Proof/Laws/Answers.lean ====
section
/-! SUPPORT. What taking and answering a request can do: the reply stands in the port's service record, and nothing else
of the state after the operation changes. -/

namespace Sys2Proof.Machine

@[simp] theorem refuse_after (s : State) (st : Status) (pl : List Octet) : (refuse s st pl).after = s := rfl
@[simp] theorem refuse_status (s : State) (st : Status) (pl : List Octet) : (refuse s st pl).status = st := rfl
@[simp] theorem refuse_payload (s : State) (st : Status) (pl : List Octet) : (refuse s st pl).payload = pl := rfl
@[simp] theorem accept_after (s : State) (pl : List Octet) : (accept s pl).after = s := rfl
@[simp] theorem accept_status (s : State) (pl : List Octet) : (accept s pl).status = .ok := rfl
@[simp] theorem accept_payload (s : State) (pl : List Octet) : (accept s pl).payload = pl := rfl

@[simp] theorem requestFrame_tag (tag : Octet) (r : Request) : (requestFrame tag r).tag = tag := rfl

/-- A taken request is the state after its operation with the request answered. -/
theorem answer_eq (p : Port) (tag : Octet) (r : Request) (t : Taken) :
    answer p (requestFrame tag r) t = replied p tag r t.status t.payload t.after := rfl

/-- In RUNNING a request row answers with what its operation leaves. -/
theorem serve_running {s : State} (p : Port) (tag : Octet) (r : Request) (op : State → Taken)
    (h : s.phase = .running) :
    serve p tag r op s = replied p tag r (op s).status (op s).payload (op s).after := by
  simp [serve, gate, h, answer_eq]

/-- In STARTING a request row but STATUS answers STARTING. -/
theorem serve_starting {s : State} (p : Port) (tag : Octet) (r : Request) (op : State → Taken)
    (h : s.phase = .starting) (hr : r ≠ .status) : serve p tag r op s = replied p tag r .starting [] s := by
  simp [serve, gate, h, hr, answer_eq]

/-- STATUS is taken in both phases. -/
theorem serve_status (p : Port) (tag : Octet) (op : State → Taken) (s : State) :
    serve p tag .status op s = replied p tag .status (op s).status (op s).payload (op s).after := by
  simp [serve, gate, answer_eq]

/-- Answering changes the port's service record alone. -/
theorem answer_frame (p : Port) (fr : Frame) (t : Taken) :
    answer p fr t = { t.after with ports := (answer p fr t).ports } := rfl

theorem replied_frame (p : Port) (tag : Octet) (r : Request) (st : Status) (pl : List Octet) (s : State) :
    replied p tag r st pl s = { s with ports := (replied p tag r st pl s).ports } := rfl

/-- A port's record after an answer: another port's is as it was, and the answered port's has its service record. -/
theorem replied_port (p q : Port) (tag : Octet) (r : Request) (st : Status) (pl : List Octet) (s : State) :
    (replied p tag r st pl s).ports[q] =
      if p = q then
        { s.ports[p] with
          service := some { request := requestFrame tag r, reply := { tag := tag, status := st, payload := pl } } }
      else s.ports[q] := by
  unfold replied
  rw [State.setPort_ports, get_set]

/-- A time limit is reached where there is one and the own clock has come to it. -/
theorem reached_iff (s : State) (due : Option Nat) : reached s due = true ↔ ∃ t, due = some t ∧ t ≤ s.clock := by
  cases due <;> simp [reached]

theorem forEach_nil {α : Type} (f : α → State → State) (s : State) : forEach [] f s = s := rfl
theorem forEach_cons {α : Type} (x : α) (xs : List α) (f : α → State → State) (s : State) :
    forEach (x :: xs) f s = forEach xs f (f x s) := rfl

/-- A property that every event of a list keeps holds after all of them. -/
theorem forEach_keeps {α : Type} (P : State → Prop) (xs : List α) (f : α → State → State)
    (h : ∀ x ∈ xs, ∀ s, P s → P (f x s)) : ∀ s, P s → P (forEach xs f s) := by
  induction xs with
  | nil => exact fun s hs => hs
  | cons x xs ih =>
    intro s hs
    exact ih (fun y hy => h y (List.mem_cons_of_mem x hy)) (f x s) (h x (List.mem_cons_self ..) s hs)

end Sys2Proof.Machine
end

