-- ==== Sys2Proof/Laws/Banks.lean ====
section
/-! SUPPORT. Accumulators: reading one after a booking, and the limits a booking keeps. -/

namespace Sys2Proof.Machine

theorem satAdd_le (limit a x : Nat) : satAdd limit a x ≤ limit := Nat.min_le_right ..

theorem satAdd_of_not_over {limit a x : Nat} (h : satOver limit a x = false) : satAdd limit a x = a + x := by
  simp [satOver] at h
  exact Nat.min_eq_left h

theorem FurnaceSums.get_put (a : FurnaceSums) (k j : FurnaceKey) (x : Nat) :
    (a.put k x).get j = if k = j then x else a.get j := by
  cases k <;> cases j <;> rfl

theorem LineSums.get_put (a : LineSums) (k j : LineKey) (x : Nat) :
    (a.put k x).get j = if k = j then x else a.get j := by
  cases k <;> cases j <;> rfl

/-- Reading an accumulator after one has been replaced. -/
theorem Bank.get_put (b : Bank) (a a' : Account) (x : Nat) :
    (b.put a x).get a' = if a = a' then x else b.get a' := by
  cases a with
  | furnace f k =>
    cases a' with
    | furnace f' k' =>
      simp only [Bank.put, Bank.get, get_set]
      by_cases h : f = f' <;> simp [h, FurnaceSums.get_put]
    | line l' k' => simp [Bank.put, Bank.get]
    | common => simp [Bank.put, Bank.get]
    | metered => simp [Bank.put, Bank.get]
  | line l k =>
    cases a' with
    | furnace f' k' => simp [Bank.put, Bank.get]
    | line l' k' =>
      simp only [Bank.put, Bank.get, get_set]
      by_cases h : l = l' <;> simp [h, LineSums.get_put]
    | common => simp [Bank.put, Bank.get]
    | metered => simp [Bank.put, Bank.get]
  | common => cases a' <;> simp [Bank.put, Bank.get]
  | metered => cases a' <;> simp [Bank.put, Bank.get]

/-- Reading an accumulator after a booking (R41). -/
theorem Bank.get_add (b : Bank) (a a' : Account) (x : Nat) :
    (b.add a x).get a' = if a = a' then satAdd bankLimit (b.get a) x else b.get a' := by
  have h : (b.add a x).get a' = (b.put a (satAdd bankLimit (b.get a) x)).get a' := by cases a' <;> rfl
  rw [h, Bank.get_put]

/-- The saturated mark after a booking (R41). -/
theorem Bank.add_saturated (b : Bank) (a : Account) (x : Nat) :
    (b.add a x).saturated = (b.saturated || satOver bankLimit (b.get a) x) := rfl

/-- A booking keeps every accumulator within its limit. -/
theorem Bank.within_add {b : Bank} (h : b.within) (a : Account) (x : Nat) : (b.add a x).within := by
  intro a'
  rw [Bank.get_add]
  split
  · exact satAdd_le ..
  · exact h a'

/-- The bookings of a split keep every accumulator within its limit. -/
theorem bookParts_within (cls : Consumer → BookingClass) (entries : List Entry) (parts : List Nat) {b : Bank}
    (h : b.within) : (bookParts cls entries parts b).within := by
  unfold bookParts
  generalize entries.zip parts = l
  induction l generalizing b with
  | nil => exact h
  | cons x xs ih => exact ih (Bank.within_add h _ _)

theorem settle_within (entries : List Entry) (q : Nat) {b : Bank} (h : b.within) : (settle entries q b).within := by
  unfold settle
  simp only []
  split <;> exact bookParts_within _ _ _ h

/-- Bookings of energy leave every accumulator that is not an energy account of a booked consumer. -/
theorem bookParts_get (cls : Consumer → BookingClass) (entries : List Entry) (parts : List Nat) (b : Bank)
    (a : Account) (h : ∀ e ∈ entries, energyAccount e.consumer (cls e.consumer) ≠ a) :
    (bookParts cls entries parts b).get a = b.get a := by
  unfold bookParts
  have hl : ∀ x ∈ entries.zip parts, energyAccount x.1.consumer (cls x.1.consumer) ≠ a := by
    intro x hx
    exact h x.1 (List.of_mem_zip hx).1
  generalize entries.zip parts = l at hl
  induction l generalizing b with
  | nil => rfl
  | cons x xs ih =>
    simp only [List.foldl_cons]
    rw [ih _ (fun y hy => hl y (List.mem_cons_of_mem x hy)), Bank.get_add, if_neg (hl x (List.mem_cons_self ..))]

/-- No energy account is a mass or the metered energy. -/
theorem energyAccount_ne_metered (c : Consumer) (k : BookingClass) : energyAccount c k ≠ .metered := by
  cases c <;> cases k <;> simp [energyAccount]

theorem bookParts_metered (cls : Consumer → BookingClass) (entries : List Entry) (parts : List Nat) (b : Bank) :
    (bookParts cls entries parts b).metered = b.metered :=
  bookParts_get cls entries parts b .metered fun e _ => energyAccount_ne_metered e.consumer _

theorem Bank.within_zero : Bank.zero.within := by
  intro a
  cases a with
  | furnace f k => cases k <;> simp [Bank.get, Bank.zero, FurnaceSums.get, FurnaceSums.zero]
  | line l k => cases k <;> simp [Bank.get, Bank.zero, LineSums.get, LineSums.zero]
  | common => simp [Bank.get, Bank.zero]
  | metered => simp [Bank.get, Bank.zero]

end Sys2Proof.Machine
end

