-- ==== Sys2Proof/Laws/Frames.lean ====
section
/-! SUPPORT. For each shared operation, the fields of the state that it can change: one equation that says that every
other field is as it was. A field lemma follows from it by `congrArg`. -/

namespace Sys2Proof.Machine

/-! ## Alerts and the prover -/

theorem setAlerts_frame (s : State) (p : Port) (a : AlertRecord) :
    s.setAlerts p a = { s with alerts := (s.setAlerts p a).alerts, ports := (s.setAlerts p a).ports } := rfl

theorem raiseTo_frame (p : Port) (src : AlertSource) (obj : Option Nat) (s : State) :
    raiseTo p src obj s =
      { s with alerts := (raiseTo p src obj s).alerts, ports := (raiseTo p src obj s).ports } := rfl

theorem raise_frame (src : AlertSource) (obj : Option Nat) (s : State) :
    raise src obj s = { s with alerts := (raise src obj s).alerts, ports := (raise src obj s).ports } := by
  have h : ({ raise src obj s with alerts := s.alerts, ports := s.ports } : State) = s := by
    unfold raise
    refine forEach_keeps (fun t => ({ t with alerts := s.alerts, ports := s.ports } : State) = s) _ _ ?_ s rfl
    exact fun _ _ _ ht => ht
  exact congrArg (fun u : State => { u with alerts := (raise src obj s).alerts, ports := (raise src obj s).ports }) h

/-- Raising a source changes nothing of a port but its attention output. -/
theorem raise_port (src : AlertSource) (obj : Option Nat) (s : State) (p : Port) :
    { (raise src obj s).ports[p] with attention := s.ports[p].attention } = s.ports[p] := by
  unfold raise
  refine forEach_keeps (fun t => { t.ports[p] with attention := s.ports[p].attention } = s.ports[p]) _ _ ?_ s rfl
  intro q _ t ht
  simp only [raiseTo, State.setAlerts, get_set]
  split
  · next h => subst h; exact ht
  · exact ht

@[simp] theorem raise_pending (src : AlertSource) (obj : Option Nat) (s : State) :
    (raise src obj s).pending = s.pending := by rw [raise_frame]
@[simp] theorem raise_phase (src : AlertSource) (obj : Option Nat) (s : State) :
    (raise src obj s).phase = s.phase := by rw [raise_frame]
@[simp] theorem raise_clock (src : AlertSource) (obj : Option Nat) (s : State) :
    (raise src obj s).clock = s.clock := by rw [raise_frame]
@[simp] theorem raise_config (src : AlertSource) (obj : Option Nat) (s : State) :
    (raise src obj s).config = s.config := by rw [raise_frame]
@[simp] theorem raise_channels (src : AlertSource) (obj : Option Nat) (s : State) :
    (raise src obj s).channels = s.channels := by rw [raise_frame]
@[simp] theorem raise_slots (src : AlertSource) (obj : Option Nat) (s : State) :
    (raise src obj s).slots = s.slots := by rw [raise_frame]
@[simp] theorem raise_pools (src : AlertSource) (obj : Option Nat) (s : State) :
    (raise src obj s).pools = s.pools := by rw [raise_frame]
@[simp] theorem raise_openBank (src : AlertSource) (obj : Option Nat) (s : State) :
    (raise src obj s).openBank = s.openBank := by rw [raise_frame]
@[simp] theorem raise_closingBank (src : AlertSource) (obj : Option Nat) (s : State) :
    (raise src obj s).closingBank = s.closingBank := by rw [raise_frame]
@[simp] theorem raise_furnaces (src : AlertSource) (obj : Option Nat) (s : State) :
    (raise src obj s).furnaces = s.furnaces := by rw [raise_frame]
@[simp] theorem raise_lines (src : AlertSource) (obj : Option Nat) (s : State) :
    (raise src obj s).lines = s.lines := by rw [raise_frame]
@[simp] theorem raise_interval (src : AlertSource) (obj : Option Nat) (s : State) :
    (raise src obj s).interval = s.interval := by rw [raise_frame]
@[simp] theorem raise_ring (src : AlertSource) (obj : Option Nat) (s : State) :
    (raise src obj s).ring = s.ring := by rw [raise_frame]
@[simp] theorem raise_cursors (src : AlertSource) (obj : Option Nat) (s : State) :
    (raise src obj s).cursors = s.cursors := by rw [raise_frame]
@[simp] theorem raise_totals (src : AlertSource) (obj : Option Nat) (s : State) :
    (raise src obj s).totals = s.totals := by rw [raise_frame]
@[simp] theorem raise_prover (src : AlertSource) (obj : Option Nat) (s : State) :
    (raise src obj s).prover = s.prover := by rw [raise_frame]
@[simp] theorem raise_locks (src : AlertSource) (obj : Option Nat) (s : State) :
    (raise src obj s).locks = s.locks := by rw [raise_frame]
@[simp] theorem raise_portLocks (src : AlertSource) (obj : Option Nat) (s : State) :
    (raise src obj s).portLocks = s.portLocks := by rw [raise_frame]
@[simp] theorem raise_loadFailed (src : AlertSource) (obj : Option Nat) (s : State) :
    (raise src obj s).loadFailed = s.loadFailed := by rw [raise_frame]
@[simp] theorem raise_save (src : AlertSource) (obj : Option Nat) (s : State) :
    (raise src obj s).save = s.save := by rw [raise_frame]
@[simp] theorem raise_image (src : AlertSource) (obj : Option Nat) (s : State) :
    (raise src obj s).image = s.image := by rw [raise_frame]

/-- The end of a run changes channels, prover, alerts and attention outputs alone. -/
theorem endRun_frame (o : ProveOutcome) (d : Int) (s : State) :
    endRun o d s =
      { s with channels := (endRun o d s).channels, prover := (endRun o d s).prover,
               alerts := (endRun o d s).alerts, ports := (endRun o d s).ports } := by
  unfold endRun
  split
  · rfl
  · rw [raise_frame]
    rfl

theorem abortRun_frame (c : Chan) (s : State) :
    abortRun c s =
      { s with channels := (abortRun c s).channels, prover := (abortRun c s).prover,
               alerts := (abortRun c s).alerts, ports := (abortRun c s).ports } := by
  unfold abortRun
  split
  · rfl
  · split
    · exact endRun_frame ..
    · rfl

/-- An abort is what R152 and R154 say of it. -/
theorem abortRun_spec (c : Chan) (s : State) : RunAborted c s (abortRun c s) := by
  unfold RunAborted abortRun released proverOn
  cases h : s.prover.state with
  | idle => simp
  | running c' p t w =>
    by_cases hc : c' = c
    · subst hc
      simp [h, endRun]
    · simp [hc]

/-- The channel that an abort was for stands as `released`. -/
theorem abortRun_channel (c : Chan) (s : State) : (abortRun c s).channels[c] = released s c := by
  obtain ⟨h0, h1⟩ := abortRun_spec c s
  cases h : proverOn s c with
  | false => simp [h0 h, released, h]
  | true => simp [h1 h, get_set, -Fin.getElem_fin]

/-! ## Attribution -/

theorem book_frame (s : State) (a : Account) (x : Nat) :
    s.book a x = { s with openBank := s.openBank.add a x } := rfl

/-- Placing an increment changes the open bank, the channel's pool and, with TAG_UNLISTED, alerts and attention outputs
alone. -/
theorem placeIncrement_frame (c : Chan) (e : Nat) (tag : Option Consumer) (s : State) :
    placeIncrement c e tag s =
      { s with openBank := (placeIncrement c e tag s).openBank, pools := (placeIncrement c e tag s).pools,
               alerts := (placeIncrement c e tag s).alerts, ports := (placeIncrement c e tag s).ports } := by
  unfold placeIncrement
  simp only []
  split
  · rfl
  · unfold placeState
    simp only []
    split <;> rfl
  · unfold placeTagged
    split
    · split
      · rfl
      · rw [raise_frame]
        rfl
    · rw [raise_frame]
      rfl
  · rfl

/-- Handing on an increment changes channels, prover, open bank, pools, alerts and attention outputs alone. -/
theorem handOn_frame (c : Chan) (u : Nat) (tag : Option Consumer) (s : State) :
    (handOn c u tag s).1 =
      { s with channels := (handOn c u tag s).1.channels, prover := (handOn c u tag s).1.prover,
               openBank := (handOn c u tag s).1.openBank, pools := (handOn c u tag s).1.pools,
               alerts := (handOn c u tag s).1.alerts, ports := (handOn c u tag s).1.ports } := by
  unfold handOn
  split
  · rfl
  · simp only []
    rw [placeIncrement_frame]
    split <;> rfl

theorem settleOpenPool_frame (c : Chan) (entries : List Entry) (s : State) :
    settleOpenPool c entries s =
      { s with openBank := (settleOpenPool c entries s).openBank, pools := (settleOpenPool c entries s).pools } := rfl

theorem settleClosingPool_frame (snap : Snapshot) (c : Chan) (s : State) :
    settleClosingPool snap c s =
      { s with closingBank := (settleClosingPool snap c s).closingBank,
               pools := (settleClosingPool snap c s).pools } := by
  unfold settleClosingPool
  simp only []
  split <;> rfl

/-! ## Channels -/

theorem sendChannel_frame (c : Chan) (st : ChannelState) (s : State) :
    sendChannel c st s =
      { s with channels := (sendChannel c st s).channels, prover := (sendChannel c st s).prover,
               alerts := (sendChannel c st s).alerts, ports := (sendChannel c st s).ports } := by
  unfold sendChannel
  simp only []
  split
  · rfl
  · rw [abortRun_frame]
    rfl

theorem enterStale_frame (c : Chan) (s : State) :
    enterStale c s =
      { s with channels := (enterStale c s).channels, prover := (enterStale c s).prover,
               alerts := (enterStale c s).alerts, ports := (enterStale c s).ports } := by
  unfold enterStale
  rw [raise_frame, sendChannel_frame]

theorem raiseReading_frame (c : Chan) (o : ReadingOutcome) (s : State) :
    raiseReading c o s =
      { s with alerts := (raiseReading c o s).alerts, ports := (raiseReading c o s).ports } := by
  unfold raiseReading
  split
  · exact raise_frame ..
  · exact raise_frame ..
  · rfl

/-- What taking a reading can change. -/
theorem finishReading_frame (c : Chan) (o : ReadingOutcome) (u : Nat) (base : Option Nat) (tag : Option Consumer)
    (s : State) :
    (finishReading c o u base tag s).after =
      { s with channels := (finishReading c o u base tag s).after.channels,
               prover := (finishReading c o u base tag s).after.prover,
               openBank := (finishReading c o u base tag s).after.openBank,
               pools := (finishReading c o u base tag s).after.pools,
               alerts := (finishReading c o u base tag s).after.alerts,
               ports := (finishReading c o u base tag s).after.ports } := by
  unfold finishReading
  simp only []
  rw [handOn_frame, raiseReading_frame]
  rfl

/-! ## Furnaces -/

theorem drain_frame (f : Furnace) (s : State) :
    drain f s = { s with openBank := (drain f s).openBank, furnaces := (drain f s).furnaces } := rfl

theorem draw_frame (f : Furnace) (m : Nat) (s : State) :
    draw f m s =
      { s with openBank := (draw f m s).openBank, furnaces := (draw f m s).furnaces, alerts := (draw f m s).alerts,
               ports := (draw f m s).ports } := by
  unfold draw
  simp only []
  split
  · rw [raise_frame]
    rfl
  · rfl

/-! ## Intervals and results -/

theorem beginClose_frame (e start : Nat) (short : Bool) (s : State) :
    beginClose e start short s =
      { s with closingBank := s.openBank, openBank := .zero, pools := swapPools s.pools,
               interval := (beginClose e start short s).interval } := rfl

theorem writeRecord_frame (r : IntervalResult) (s : State) :
    writeRecord r s = { s with ring := pushRecord r s.ring, cursors := (writeRecord r s).cursors } := rfl

/-! ## Locks -/

theorem grantNext_frame (r : RegionNo) (s : State) :
    grantNext r s =
      { s with locks := (grantNext r s).locks, portLocks := (grantNext r s).portLocks,
               alerts := (grantNext r s).alerts, ports := (grantNext r s).ports } := by
  unfold grantNext
  split <;> rfl

theorem endHold_frame (r : RegionNo) (p : Port) (s : State) :
    endHold r p s =
      { s with locks := (endHold r p s).locks, portLocks := (endHold r p s).portLocks,
               alerts := (endHold r p s).alerts, ports := (endHold r p s).ports } := by
  unfold endHold
  rw [grantNext_frame]
  rfl

theorem endWait_frame (r : RegionNo) (p : Port) (s : State) :
    endWait r p s = { s with locks := (endWait r p s).locks, portLocks := (endWait r p s).portLocks } := rfl

theorem expireLock_frame (r : RegionNo) (s : State) :
    expireLock r s =
      { s with locks := (expireLock r s).locks, portLocks := (expireLock r s).portLocks,
               alerts := (expireLock r s).alerts, ports := (expireLock r s).ports } := by
  unfold expireLock
  split
  · rfl
  · rw [endHold_frame]
    rfl

theorem expireIfSilent_frame (r : RegionNo) (s : State) :
    expireIfSilent r s =
      { s with locks := (expireIfSilent r s).locks, portLocks := (expireIfSilent r s).portLocks,
               alerts := (expireIfSilent r s).alerts, ports := (expireIfSilent r s).ports } := by
  unfold expireIfSilent
  split
  · exact expireLock_frame ..
  · rfl

theorem dropLocks_frame (p : Port) (s : State) :
    dropLocks p s =
      { s with locks := (dropLocks p s).locks, portLocks := (dropLocks p s).portLocks,
               alerts := (dropLocks p s).alerts, ports := (dropLocks p s).ports } := by
  unfold dropLocks
  simp only []
  split <;> split
  · rw [endWait_frame, endHold_frame]
  · rw [endWait_frame]
  · exact endHold_frame ..
  · rfl

theorem touch_frame (r : RegionNo) (h : Hold) (s : State) :
    touch r h s = { s with locks := (touch r h s).locks } := rfl

end Sys2Proof.Machine
end

