-- ==== Sys2Proof/Laws/Alerts.lean ====
section
/-! SUPPORT. What joining an object set, replacing an alert record and raising a source for one port or for all give, and
how raised sources add up. -/

namespace Sys2Proof.Machine

/-- An object set after an object joins it. -/
theorem joinObject_mem (n m : Nat) (l : List Nat) : m ∈ joinObject n l ↔ m = n ∨ m ∈ l := by
  induction l with
  | nil => simp [joinObject]
  | cons k ks ih =>
    unfold joinObject
    split
    · simp
    · split
      · next h => subst h; simp
      · simp only [List.mem_cons, ih]
        tauto

/-- A strictly rising object set stays so. -/
theorem joinObject_pairwise (n : Nat) (l : List Nat) (h : l.Pairwise (· < ·)) : (joinObject n l).Pairwise (· < ·) := by
  induction l with
  | nil => simp [joinObject]
  | cons k ks ih =>
    obtain ⟨hk, hks⟩ := List.pairwise_cons.mp h
    unfold joinObject
    split
    · next hn =>
      refine List.pairwise_cons.mpr ⟨fun x hx => ?_, h⟩
      rcases List.mem_cons.mp hx with rfl | hx
      · exact hn
      · exact Nat.lt_trans hn (hk x hx)
    · split
      · exact h
      · refine List.pairwise_cons.mpr ⟨fun x hx => ?_, ih hks⟩
        rcases (joinObject_mem n x ks).mp hx with rfl | hx
        · omega
        · exact hk x hx

theorem setAlerts_alerts (s : State) (p q : Port) (a : AlertRecord) :
    (s.setAlerts p a).alerts[q] = if p = q then a else s.alerts[q] := get_set ..

theorem setAlerts_port (s : State) (p q : Port) (a : AlertRecord) :
    (s.setAlerts p a).ports[q] =
      if p = q then { s.ports[p] with attention := a.wantsAttention } else s.ports[q] := get_set ..

@[simp] theorem latch_mask (a : AlertRecord) (k : Fin 19) (obj : Option Nat) : (a.latch k obj).mask = a.mask := rfl

/-- Latching a source leaves every other source as it was. -/
theorem latch_pending (a : AlertRecord) (k j : Fin 19) (obj : Option Nat) :
    (a.latch k obj).pending[j] =
      if k = j then
        some (match obj with | none => (a.pending[k]).getD [] | some n => joinObject n ((a.pending[k]).getD []))
      else a.pending[j] := get_set ..

theorem AlertSource.code_inj {a b : AlertSource} (h : a.code = b.code) : a = b := by
  cases a <;> cases b <;> first | rfl | exact absurd h (by decide)

theorem AlertSource.code_surj (k : Fin 19) : ∃ a : AlertSource, a.code = k := by
  have h : ∀ k : Fin 19, ∃ a ∈ [AlertSource.configLoadFail, .saveFail, .moduleRejected, .moduleMismatch, .channelStale,
      .channelOffline, .readingClamped, .readingBackstep, .tagUnlisted, .inventoryShort, .queueMerged, .holdForced,
      .holdCuts, .seBand, .intervalClosed, .proveDone, .lineHeld, .lockGranted, .lockExpired], a.code = k := by decide
  obtain ⟨a, -, ha⟩ := h k
  exact ⟨a, ha⟩

/-- Raising a source for all ports is raising it for each. -/
theorem raise_eq (src : AlertSource) (obj : Option Nat) (s : State) :
    raise src obj s = raiseTo 3 src obj (raiseTo 2 src obj (raiseTo 1 src obj (raiseTo 0 src obj s))) := rfl

/-- Raising a source latches it on every port. -/
theorem raise_alerts (src : AlertSource) (obj : Option Nat) (s : State) (p : Port) :
    (raise src obj s).alerts[p] = s.alerts[p].latch src.code obj := by
  simp only [raise_eq, raiseTo, setAlerts_alerts]
  match p with
  | 0 | 1 | 2 | 3 => rfl

/-- Raising a source makes every attention output follow its port's record. -/
theorem raise_ports (src : AlertSource) (obj : Option Nat) (s : State) (p : Port) :
    (raise src obj s).ports[p] =
      { s.ports[p] with attention := (s.alerts[p].latch src.code obj).wantsAttention } := by
  simp only [raise_eq, raiseTo, setAlerts_alerts, setAlerts_port]
  match p with
  | 0 | 1 | 2 | 3 => rfl


/-- Nothing raised: alerts and ports are as they were. -/
theorem raisedJust_none {raised : AlertSource → Option Nat → Prop} {s t : State} (ha : t.alerts = s.alerts)
    (hp : t.ports = s.ports) (h : ∀ src obj, ¬ raised src obj) : RaisedJust raised s t :=
  ⟨fun p => ⟨by rw [ha], fun src => ⟨fun _ => by rw [ha], fun ⟨obj, ho⟩ => absurd ho (h src obj)⟩⟩, fun _ => hp,
    fun ⟨src, obj, ho⟩ => absurd ho (h src obj)⟩

/-- One source raised for one object, or for none. -/
theorem raise_raisedJust (src : AlertSource) (obj : Option Nat) (s : State) :
    RaisedJust (fun x o => x = src ∧ o = obj) s (raise src obj s) := by
  refine ⟨fun p => ⟨by rw [raise_alerts]; rfl, fun x => ?_⟩, fun h => absurd ⟨rfl, rfl⟩ (h src obj), fun _ p => ?_⟩
  · simp only [raise_alerts, latch_pending]
    refine ⟨fun h => if_neg fun hx => h obj ⟨(AlertSource.code_inj hx).symm, rfl⟩, ?_⟩
    rintro ⟨o, rfl, rfl⟩
    cases o with
    | none => exact ⟨_, if_pos rfl, fun n => by simp, id⟩
    | some m => exact ⟨_, if_pos rfl, fun n => by simp [joinObject_mem, eq_comm], joinObject_pairwise m _⟩
  · rw [raise_ports, raise_alerts]

/-- Whether an output is to be asserted is a matter of what is pending and of the mask. -/
theorem wantsAttention_congr {a b : AlertRecord} (hm : b.mask = a.mask)
    (hp : ∀ src : AlertSource, b.pending[src.code] = a.pending[src.code]) : b.wantsAttention = a.wantsAttention := by
  unfold AlertRecord.wantsAttention
  congr 1
  funext k
  obtain ⟨src, rfl⟩ := AlertSource.code_surj k
  rw [hm, hp src]

/-- What is raised in two parts. -/
theorem RaisedJust.trans {a b : AlertSource → Option Nat → Prop} {s t u : State} (h : RaisedJust a s t)
    (k : RaisedJust b t u) : RaisedJust (fun src obj => a src obj ∨ b src obj) s u := by
  obtain ⟨ha, hn, hs⟩ := h
  obtain ⟨ka, kn, ks⟩ := k
  refine ⟨fun p => ⟨(ka p).1.trans (ha p).1, fun src => ?_⟩, fun no => ?_, fun hab p => ?_⟩
  · obtain ⟨h0, h1⟩ := (ha p).2 src
    obtain ⟨k0, k1⟩ := (ka p).2 src
    refine ⟨fun no => (k0 fun o ho => no o (.inr ho)).trans (h0 fun o ho => no o (.inl ho)), fun hab => ?_⟩
    by_cases hA : ∃ o, a src o
    · obtain ⟨mid, hmid, hm, hmo⟩ := h1 hA
      by_cases hB : ∃ o, b src o
      · obtain ⟨set, hset, hk, hko⟩ := k1 hB
        rw [hmid] at hk hko
        refine ⟨set, hset, fun n => (hk n).trans ((or_congr_right (hm n)).trans ?_), fun hp => hko (hmo hp)⟩
        rw [← or_assoc, or_comm (a := b src (some n))]
      · refine ⟨mid, (k0 fun o ho => hB ⟨o, ho⟩).trans hmid, fun n => (hm n).trans (or_congr_left ?_), hmo⟩
        exact (or_iff_left fun h => hB ⟨_, h⟩).symm
    · obtain ⟨set, hset, hk, hko⟩ := k1 (hab.imp fun o ho => ho.resolve_left fun h => hA ⟨o, h⟩)
      rw [h0 fun o ho => hA ⟨o, ho⟩] at hk hko
      exact ⟨set, hset, fun n => (hk n).trans (or_congr_left (or_iff_right fun h => hA ⟨_, h⟩).symm), hko⟩
  · exact (kn fun x o ho => no x o (.inr ho)).trans (hn fun x o ho => no x o (.inl ho))
  · by_cases hB : ∃ x o, b x o
    · rw [ks hB p]
      by_cases hA : ∃ x o, a x o
      · rw [hs hA p]
      · rw [hn fun x o ho => hA ⟨x, o, ho⟩]
    · obtain ⟨x, o, ho⟩ := hab
      have hw : u.alerts[p].wantsAttention = t.alerts[p].wantsAttention :=
        wantsAttention_congr (ka p).1 fun src => ((ka p).2 src).1 fun o ho => hB ⟨src, o, ho⟩
      rw [kn fun x o ho => hB ⟨x, o, ho⟩, hs ⟨x, o, ho.resolve_right fun h => hB ⟨x, o, h⟩⟩ p, hw]

end Sys2Proof.Machine
end

