-- ==== Sys2Proof/Laws/Numbers.lean ====
section
/-! SUPPORT. What the codings of numbers, absent values and lists give: their lengths, and the number that octets spell. -/

namespace Sys2Proof.Machine

@[simp] theorem octets_length (k n : Nat) : (octets k n).length = k := by
  induction k with
  | zero => rfl
  | succ k ih => simp [octets, ih]

theorem number_nil : number [] = 0 := rfl

/-- The octets of a fold from a number `m` count on from `m`. -/
theorem number_foldl (os : List Octet) (m : Nat) :
    os.foldl (fun n o => 256 * n + o.toNat) m = m * 256 ^ os.length + number os := by
  induction os generalizing m with
  | nil => simp [number]
  | cons o os ih =>
    simp only [number, List.foldl_cons, List.length_cons]
    rw [ih, ih (256 * 0 + o.toNat)]
    ring

theorem number_cons (o : Octet) (os : List Octet) : number (o :: os) = o.toNat * 256 ^ os.length + number os := by
  rw [number, List.foldl_cons, number_foldl]
  simp

theorem number_append (a b : List Octet) : number (a ++ b) = number a * 256 ^ b.length + number b := by
  rw [number, List.foldl_append, number_foldl]
  rfl

/-- The octets of a number spell its remainder by 256 to their count. -/
theorem number_octets (k n : Nat) : number (octets k n) = n % 256 ^ k := by
  induction k with
  | zero => simp [octets, number, Nat.mod_one]
  | succ k ih =>
    have h : n % (256 ^ k * 256) = n % 256 ^ k + 256 ^ k * (n / 256 ^ k % 256) := Nat.mod_mul
    rw [octets, number_cons, octets_length, ih, Nat.pow_succ, h, BitVec.toNat_ofNat, Nat.add_comm, Nat.mul_comm]

/-- A number that its octets can hold is the number they spell. -/
theorem number_octets_of_lt {k n : Nat} (h : n < 256 ^ k) : number (octets k n) = n := by
  rw [number_octets, Nat.mod_eq_of_lt h]

@[simp] theorem signedOctets_length (k : Nat) (i : Int) : (signedOctets k i).length = k := octets_length ..

@[simp] theorem optional_none {α : Type} (code : α → List Octet) : optional code none = [0] := rfl

@[simp] theorem optional_some {α : Type} (code : α → List Octet) (a : α) : optional code (some a) = 1 :: code a := rfl

@[simp] theorem yesNo_length (b : Bool) : (yesNo b).length = 1 := octets_length ..

/-- A list whose items take `k` octets each takes one octet and `k` for each item. -/
theorem listOf_length {α : Type} (code : α → List Octet) (k : Nat) (l : List α) (h : ∀ a ∈ l, (code a).length = k) :
    (listOf code l).length = 1 + l.length * k := by
  have hs : (l.flatMap code).length = l.length * k := by
    induction l with
    | nil => simp
    | cons a l ih =>
      rw [List.flatMap_cons, List.length_append, h a (List.mem_cons_self ..),
        ih fun b hb => h b (List.mem_cons_of_mem a hb), List.length_cons]
      ring
  rw [listOf, List.length_append, octets_length, hs]

end Sys2Proof.Machine
end

