-- ==== Sys2Proof/Tests/Slice0.lean ====
section
/-! SUPPORT. The model's own tests. First the checks of `WellFormed`, then one step for the commands with the figures of the
handbook's worked examples, and then, for every statement with hypotheses, concrete states that meet them. -/

namespace Sys2Proof.Tests

-- One test after the other: each is evaluated by the kernel, and many at once would each take a thread.
set_option Elab.async false

open Sys2Proof.Machine

/-! ## Helpers -/

/-- The part right after a start with the blank configuration. -/
def up : State := { State.reset with phase := .running }

/-- The state after one command. -/
def ran (c : Instr) (s : State) : State :=
  match exec c s with
  | .next t => t
  | _ => s

/-- Status and payload of the reply that stands on a port. -/
def sent (p : Port) (s : State) : Option (Status × List Octet) :=
  (s.ports[p].service).map fun v => (v.reply.status, v.reply.payload)

/-- `k` octets of the reply on port 0, from offset `at0`, as a number. -/
def field (at0 k : Nat) (s : State) : Nat :=
  match s.ports[(0 : Port)].service with
  | some v => number ((v.reply.payload.drop at0).take k)
  | none => 0

/-- A state whose own clock stands at `t`. -/
def clocked (t : Nat) (s : State) : State := { s with clock := t }

/-- A state whose plant time is `t`. -/
def at_ (t : Nat) (s : State) : State := { s with interval := { s.interval with plantTime := t } }

def withChannel (c : Chan) (g : ChannelConfig) (r : ChannelRecord) (s : State) : State :=
  { s with
    config := { s.config with channels := s.config.channels.set c g },
    channels := s.channels.set c r }

def withFurnace (f : Furnace) (g : FurnaceConfig) (r : FurnaceRecord) (s : State) : State :=
  { s with
    config := { s.config with furnaces := s.config.furnaces.set f g },
    furnaces := s.furnaces.set f r }

def withLine (l : Line) (g : LineConfig) (r : LineRecord) (s : State) : State :=
  { s with
    config := { s.config with lines := s.config.lines.set l g },
    lines := s.lines.set l r }

/-- Factor 36,000 in set A of every carrier, without trim. -/
def withFactors (s : State) : State :=
  { s with
    config := { s.config with
      carriers := Vector.replicate 4 { factorA := 36000, trimA := 0, factorB := 0, trimB := 0 } } }

def channelAt (st : ChannelState) (base : Option Nat) (last : Nat) : ChannelRecord :=
  { ChannelRecord.reset with state := st, base := base, lastReading := last }

/-- The TOTAL channel of 1.3: modulus 1,000,000 and rate ceiling 50. -/
def posted : ChannelConfig :=
  { blankChannel with active := true, source := .port, modulus := 1000000, rateCeiling := 50 }

def wired : ChannelConfig := { blankChannel with active := true }
def polled : ChannelConfig := { wired with expected := .serial, modulus := 10 ^ 9, pollPeriod := 10, address := 9 }

def furnaceOn : FurnaceConfig := { blankFurnace with enabled := true }
def lineOn : LineConfig := { blankLine with enabled := true }

def furnaceAt (st : FurnaceState) : FurnaceRecord := { FurnaceRecord.reset with state := some st }
def lineAt (st : LineState) : LineRecord := { LineRecord.reset with state := some st }

/-- F1 of 4.5.2 with its two records. -/
def shift : FurnaceRecord :=
  { state := some .melting, lastSerial := 17, lastCullet := 400,
    queue := [⟨0, 0, 10000000, 4000000, 3000000, 1200000⟩, ⟨17, 0, 17960000, 8000000, 17960000, 8000000⟩],
    inventoryMass := 20960000, inventoryCullet := 9200000 }

/-- Job 5101 on L3 in 5.5. -/
def job5101 : Job := ⟨5101, 410, 3, 405, 12000, 31500⟩

/-- L3 of 5.5 in a state, fed by a melting F1. -/
def lineL3 (st : LineState) : State :=
  withLine 3 { lineOn with feeding := 1 } { lineAt st with current := some job5101 }
    (withFurnace 1 furnaceOn shift up)

def slotAt (st : SlotState) (sense : Sense) : SlotRecord := { SlotRecord.reset sense with state := st }

/-- A run of the prover on C28 claimed by P2, with pulse weight 10,000 (8.4). -/
def proving : State :=
  withChannel 28 posted { channelAt .live (some 5040230) 60598 with underProve := true }
    { at_ 60599 up with prover := { state := .running 28 2 601000 10000, channelUnits := 40230,
                                    referenceUnits := 40150000 } }

/-- The lock of a region on a port, with the committed values staged. -/
def holding (p : Port) (r : RegionNo) (s : State) : State :=
  (s.setLock r { hold := some { port := p, staging := s.config.get (regionOf r), lastRequest := 0 },
                 waitList := [] }).setPortLock p { held := some r, waited := none }

/-- The ring of 7.2: records 101 to 148. -/
def blankRecord (n : Nat) : IntervalResult :=
  { number := n, startTime := 0, endTime := 0, short := false, cleared := false, first := false, saturated := false,
    metered := 0, common := 0, furnaces := [], lines := [] }

def ringUp : State :=
  { up with
    ring := (List.range 48).map fun n => blankRecord (101 + n),
    cursors := (Vector.replicate 4 ⟨149, false⟩).set 3 ⟨102, true⟩,
    interval := { up.interval with number := 149 } }

/-- A close in flight of interval 1, with an empty snapshot of the blank configuration. -/
def closingOne : Closing :=
  { number := 1, startTime := 0, endTime := 60, short := false, cleared := false, first := true,
    snapshot := takeSnapshot up }

def closingUp : State :=
  { up with interval := { up.interval with number := 2, startTime := 60, closing := some closingOne } }

def saving (n : Nat) : State :=
  { up with
    save := some { snapshot := { config := blankConfiguration, inventories := Vector.replicate 4 (0, 0) },
                   written := n, accessDue := 100 } }

/-! ## Well-formed commands: one ill-formed term for each check -/

theorem test_wf_number_too_wide : (Instr.meterPost 0 1 256 0 none).wf = false := by decide +kernel
theorem test_wf_tag_too_wide : (Instr.meterPost 0 1 0 0 (some 256)).wf = false := by decide +kernel
theorem test_wf_value_of_another_form : (Instr.stageWrite 0 1 0 0 (.num 1)).wf = false := by decide +kernel
theorem test_wf_field_without_form : (Instr.stageWrite 0 1 32 4 (.num 1)).wf = false := by decide +kernel
theorem test_wf_stage_number_too_wide : (Instr.stageWrite 0 1 0 5 (.num (2 ^ 48))).wf = false := by decide +kernel
theorem test_wf_trim_too_wide : (Instr.stageWrite 0 1 0 12 (.trim 32768)).wf = false := by decide +kernel
theorem test_wf_seven_entries : (Instr.stageWrite 0 1 0 14 (.entries (List.replicate 7 (0, 1)))).wf = false := by
  decide +kernel
theorem test_wf_three_ranks : (Instr.stageWrite 0 1 52 1 (.ranks [0, 1, 2])).wf = false := by decide +kernel
theorem test_wf_text_too_long : (Instr.stageWrite 0 1 52 5 (.text (List.replicate 17 65))).wf = false := by
  decide +kernel
theorem test_wf_meter_value_too_wide : (Instr.pollReply ⟨0, 0⟩ true 1 (2 ^ 40)).wf = false := by decide +kernel
theorem test_wf_meter_address_too_wide : (Instr.pollReply ⟨0, 0⟩ true 256 0).wf = false := by decide +kernel
theorem test_wf_known_code : (Instr.badCommand 0 1 16 []).wf = false := by decide +kernel
theorem test_wf_payload_too_long : (Instr.badCommand 0 1 2 (List.replicate 1025 0)).wf = false := by decide +kernel

/-! ## Checks of frames and of the image -/

/-- The check value of the CRC-16 that R173 describes (all ones at the start, polynomial 1021H), for "123456789". -/
theorem test_crc16 : crc16 [49, 50, 51, 52, 53, 54, 55, 56, 57] = 0x29B1#16 := by decide +kernel

/-- The check value of the CRC-32 of R186 for "123456789". -/
theorem test_crc32 : crc32 [49, 50, 51, 52, 53, 54, 55, 56, 57] = 0xCBF43926#32 := by decide +kernel

/-- No word spells a command: the table gives its rows no bits. -/
theorem test_decode_table_word : decodeTableWord 8 1 = none := rfl

/-! ## Channels (chapter 1) -/

/-- 1.3: a post of 400 at 1070 after 999,800 is a rollover of 600. -/
theorem test_meterPost_rollover :
    sent 0 (ran (.meterPost 0 1 0 400 none) (withChannel 0 posted (channelAt .live (some 999800) 1010) (at_ 1070 up))) =
      some (.ok, [1, 0, 0, 0, 0, 2, 88, 0, 0, 0, 0, 0, 0, 0, 0, 3]) := by decide +kernel

/-- 1.4: 7 litres at factor 36,000, set trim -20 and meter trim +12 hand on 251 kJ and leave a carry. -/
theorem test_meterPost_carry :
    let k : CarrierConfig := { factorA := 36000, trimA := -20, factorB := 0, trimB := 0 }
    let s : State :=
      withChannel 0 { posted with kind := .delta, trim := 12 } (channelAt .live none 0)
        { up with config := { up.config with carriers := up.config.carriers.set 0 k } }
    let t := ran (.meterPost 0 1 0 7 none) s
    (field 7 8 t, t.channels[(0 : Chan)].carry, t.openBank.get (.furnace 0 .standby)) = (251, 79779520000, 251) := by
  decide +kernel

theorem test_channelRead : field 0 1 (ran (.channelRead 0 1 28) proving) = 3 := by decide +kernel

theorem test_channelRebase :
    (ran (.channelRebase 0 1 28) proving).channels[(28 : Chan)].base = none ∧
      (ran (.channelRebase 0 1 28) proving).channels[(28 : Chan)].prove.outcome = .aborted := by decide +kernel

/-- R21: set B without a factor is refused with SET_UNSET. -/
theorem test_setSwitch : sent 0 (ran (.setSwitch 0 1 0 1) (withFactors up)) = some (.rejected, [6]) := by
  decide +kernel

/-- 1.3: the stale time of 300 s has run at 1460. -/
theorem test_staleTimeExpiry :
    (ran (.staleTimeExpiry 0) (withChannel 0 posted (channelAt .live (some 91900) 1160) (at_ 1460 up))).channels[
      (0 : Chan)].state = .stale := by decide +kernel

/-! ## Slots (chapter 2) -/

/-- 2.3, 0 ms: presence A asserted. -/
theorem test_presenceChange :
    (ran (.presenceChange 5 true false) (up.setSlot 5 (slotAt .empty ⟨false, false, false, false⟩))).slots[
      (5 : Slot)].state = .sensing := by decide +kernel

/-- 2.3, 190 ms: K2 grounded restarts the settle timer alone. -/
theorem test_codeLineChange :
    let t := ran (.codeLineChange 5 false true) ({ up with clock := 190 }.setSlot 5
      { slotAt .sensing ⟨true, true, false, false⟩ with settleDue := some 680, partialDue := some 2180 })
    (t.slots[(5 : Slot)].settleDue, t.slots[(5 : Slot)].partialDue) = (some 690, some 2180) := by decide +kernel

/-- 2.3, 690 ms: both present, K1 open, K2 grounded. -/
theorem test_settleTimerExpiry :
    let t := ran (.settleTimerExpiry 5)
      (withChannel 20 wired (channelAt (.offline .slotNotReady) none 0)
        (clocked 690 (up.setSlot 5 { slotAt .sensing ⟨true, true, false, true⟩ with settleDue := some 690 })))
    (t.slots[(5 : Slot)].state, t.channels[(20 : Chan)].state, t.channels[(20 : Chan)].base) =
      (.ready .pulse4f, .live, some 0) := by decide +kernel

theorem test_partialTimerExpiry :
    (ran (.partialTimerExpiry 5)
      (clocked 2000 up |>.setSlot 5 { slotAt .sensing ⟨true, false, false, false⟩ with settleDue := none })).slots[(5 : Slot)].state =
        .rejected .partly := by decide +kernel

/-- R32: after 65,535 a counter returns to 0. -/
theorem test_pulseInput :
    let r := slotAt (.ready .pulse4) ⟨true, true, false, false⟩
    (ran (.pulseInput 0 3) (up.setSlot 0 { r with
      positions := r.positions.set 3 { counter := 65535, nextDue := none, failed := 0 } })).slots[
        (0 : Slot)].positions[(3 : Position)].counter = 0 := by decide +kernel

/-- R15, R33: a sample takes the change modulo 65,536, here 3 counts over the return to 0. -/
theorem test_pulseSample :
    let r := slotAt (.ready .pulse4) ⟨true, true, false, false⟩
    (ran .pulseSample (withChannel 0 { wired with rateCeiling := 1000, trim := 0 } (channelAt .live (some 65534) 0)
      (withFactors (up.setSlot 0 { r with
        positions := r.positions.set 0 { counter := 1, nextDue := none, failed := 0 } })))).openBank.metered = 108 := by
  decide +kernel

/-- 2.5, 100.1 s: C05 is polled and next due a poll period later. -/
theorem test_pollStart :
    let r := slotAt (.ready .serial4) ⟨true, true, true, false⟩
    let t := ran (.pollStart 1) (withChannel 5 polled (channelAt .live (some 7000) 90)
      ({ up with clock := 100100 }.setSlot 1 { r with
        positions := r.positions.set 1 { counter := 0, nextDue := some 100000, failed := 0 } }))
    (t.slots[(1 : Slot)].poll, t.slots[(1 : Slot)].positions[(1 : Position)].nextDue) =
      (some { position := 1, address := 9, limit := 100300 }, some 110100) := by decide +kernel

/-- 2.5, 130.15 s: a good reply brings C05 back to LIVE and clears its failed polls. -/
theorem test_pollReply :
    let r := slotAt (.ready .serial4) ⟨true, true, true, false⟩
    let t := ran (.pollReply ⟨1, 4⟩ true 9 7001) (withChannel 5 polled (channelAt .stale (some 7000) 90)
      (at_ 130 (clocked 130150 up |>.setSlot 1 { r with
        poll := some { position := 1, address := 9, limit := 130300 }, polls := 4,
        positions := r.positions.set 1 { counter := 0, nextDue := none, failed := 3 } })))
    (t.channels[(5 : Chan)].state, t.slots[(1 : Slot)].positions[(1 : Position)].failed) = (.live, 0) := by
  decide +kernel

/-- R36: the same reply to the poll before, or one that comes after the reply limit, is late and is discarded. -/
theorem test_pollReply_late :
    let r := slotAt (.ready .serial4) ⟨true, true, true, false⟩
    let s := withChannel 5 polled (channelAt .stale (some 7000) 90)
      (at_ 130 (clocked 130150 up |>.setSlot 1 { r with
        poll := some { position := 1, address := 9, limit := 130300 }, polls := 4 }))
    ran (.pollReply ⟨1, 3⟩ true 9 7001) s = s ∧
      ran (.pollReply ⟨1, 4⟩ true 9 7001) (clocked 130301 s) = clocked 130301 s := by decide +kernel

/-- 2.5, 120.3 s: the third failed poll sends C05 to STALE. -/
theorem test_replyLimitExpiry :
    let r := slotAt (.ready .serial4) ⟨true, true, true, false⟩
    let t := ran (.replyLimitExpiry 1) (withChannel 5 polled (channelAt .live (some 7000) 90)
      (clocked 120300 up |>.setSlot 1 { r with
        poll := some { position := 1, address := 9, limit := 120300 },
        positions := r.positions.set 1 { counter := 0, nextDue := none, failed := 2 } }))
    (t.channels[(5 : Chan)].state, t.alerts[(0 : Port)].pending[(4 : Fin 19)]) = (.stale, some [5]) := by
  decide +kernel

theorem test_slotRead :
    ((sent 0 (ran (.slotRead 0 1 5) up)).map fun x => (x.1, x.2.take 3)) = some (.ok, [1, 0, 0]) := by decide +kernel

/-! ## Attribution (chapter 3) -/

/-- 3.3: E = 2,000,003 over the weights 400, 350 and 250. -/
theorem test_split : split 2000003 [400, 350, 250] = [800002, 700001, 500000] := by decide +kernel

/-- 3.5 and 6.10: C10's pool of 900,000 kJ over the pulled masses of L0 and L1. -/
theorem test_closingPoolSettle :
    let k := { closingOne with snapshot := { closingOne.snapshot with
      lists := closingOne.snapshot.lists.set 10 (some [⟨.line 0, 1000⟩, ⟨.line 1, 1000⟩]) } }
    let s : State := ({ up with interval := { up.interval with closing := some k } }.setPool 10 ⟨0, 900000⟩)
    let t := ran (.closingPoolSettle 10)
      (s.setClosingBank ((Bank.zero.put (.line 0 .pulled) 5200000).put (.line 1 .pulled) 4300000))
    (t.closingBank.get (.line 0 .producing), t.closingBank.get (.line 1 .producing), t.pools[(10 : Chan)].closing) =
      (492632, 407368, 0) := by decide +kernel

theorem test_liveRead : ((sent 0 (ran (.liveRead 0 1 16) up)).map fun x => x.2.length) = some 22 := by decide +kernel

/-! ## Furnaces (chapter 4) -/

/-- 4.5.2, first event: 5,000,000 g drawn. -/
theorem test_draw :
    let t := draw 1 5000000 (withFurnace 1 furnaceOn shift up)
    (t.furnaces[(1 : Furnace)].queue, t.openBank.get (.furnace 1 .cullet)) =
      ([⟨17, 0, 17960000, 8000000, 15960000, 7109132⟩], 2090868) := by decide +kernel

/-- 4.3 and 4.5.2: a charge of 6,000,000 g batch and 6,000,000 g cullet at LOI 170. -/
theorem test_chargePost :
    let t := ran (.chargePost 0 1 1 18 6000000 6000000) (withFurnace 1 furnaceOn shift up)
    (t.furnaces[(1 : Furnace)].lastSerial, t.openBank.get (.furnace 1 .melted)) = (18, 10980000) := by decide +kernel

/-- 4.5.2, third event: a resend is refused with DUPLICATE carrying the last serial. -/
theorem test_chargePost_duplicate :
    sent 0 (ran (.chargePost 0 1 1 17 1 1) (withFurnace 1 furnaceOn shift up)) = some (.duplicate, [0, 0, 0, 17]) := by
  decide +kernel

/-- R66: L3, working, keeps F1 from HOLD. -/
theorem test_furnaceHold : sent 0 (ran (.furnaceHold 0 1 1) (lineL3 .jobChange)) = some (.linesActive, [3, 1]) := by
  decide +kernel
theorem test_furnaceResume :
    sent 0 (ran (.furnaceResume 0 1 0) (withFurnace 0 furnaceOn (furnaceAt .hold) up)) = some (.ok, [0]) := by
  decide +kernel
/-- R68, R69: the shutdown drains the tank. -/
theorem test_furnaceShutdown :
    (ran (.furnaceShutdown 0 1 1) (withFurnace 1 furnaceOn { shift with state := some .hold } up)).openBank.get
      (.furnace 1 .drained) = 20960000 := by decide +kernel
theorem test_furnaceWarm :
    sent 0 (ran (.furnaceWarm 0 1 0) (withFurnace 0 furnaceOn (furnaceAt .cold) up)) = some (.ok, [1]) := by
  decide +kernel
/-- R82: the header and two records of 32 octets. -/
theorem test_queueRead :
    ((sent 0 (ran (.queueRead 0 1 1 0) (withFurnace 1 furnaceOn shift up))).map fun x => x.2.length) =
      some (1 + 1 + 2 + 4 + 2 + 6 + 6 + 1 + 5 + 1 + 1 + 2 * 32) := by decide +kernel

/-! ## Forming lines (chapter 5) -/

/-- 5.5, event 1: 738,000 g pulled and 648,000 g packed. -/
theorem test_tallyPost_producing :
    let t := ran (.tallyPost 0 1 3 5101 12600 33100) (lineL3 .producing)
    (t.openBank.get (.line 3 .pulled), t.openBank.get (.line 3 .packed), t.openBank.get (.furnace 1 .pulled)) =
      (738000, 648000, 738000) := by decide +kernel

/-- 5.6: 50 cuts in HOLD are absorbed. -/
theorem test_tallyPost_hold :
    let t := ran (.tallyPost 0 1 3 5101 12050 31500) (lineL3 .hold)
    (t.openBank.get (.line 3 .pulled), t.alerts[(2 : Port)].pending[(12 : Fin 19)]) = (0, some [3]) := by decide +kernel

/-- 5.5, event 2. -/
theorem test_jobStart :
    let t := ran (.jobStart 0 1 3 5102 265 4 262) (lineL3 .producing)
    (t.lines[(3 : Line)].state, t.lines[(3 : Line)].previous) = (some .jobChange, some job5101) := by decide +kernel
theorem test_jobReady : sent 0 (ran (.jobReady 0 1 3) (lineL3 .jobChange)) = some (.ok, [0]) := by decide +kernel
/-- 5.5, event 7. -/
theorem test_lineHold :
    (ran (.lineHold 0 1 3) (lineL3 .producing)).lines[(3 : Line)].holdDue = some 60000 := by decide +kernel
theorem test_holdTimerExpiry :
    let t := ran (.holdTimerExpiry 3)
      (withLine 3 lineOn { lineAt .holdPending with holdDue := some 60000 } (clocked 60000 up))
    (t.lines[(3 : Line)].state, t.alerts[(0 : Port)].pending[(11 : Fin 19)]) = (some .hold, some [3]) := by
  decide +kernel
theorem test_lineResume : sent 0 (ran (.lineResume 0 1 3) (lineL3 .hold)) = some (.ok, [0, 0, 0, 19, 237]) := by
  decide +kernel
theorem test_lineShutdown : sent 0 (ran (.lineShutdown 0 1 3) (lineL3 .hold)) = some (.ok, [4]) := by decide +kernel
theorem test_lineWarm : sent 0 (ran (.lineWarm 0 1 3) (lineL3 .cold)) = some (.ok, [3]) := by decide +kernel
theorem test_stateRead : field 0 3 (ran (.stateRead 0 1 3) (lineL3 .hold)) = 3 * 65536 + 0 * 256 + 1 := by
  decide +kernel

/-! ## Intervals (chapter 6) -/

theorem test_plantTimeTick : (ran .plantTimeTick (at_ 59 up)).interval.plantTime = 60 := by decide +kernel

/-- 6.2: at 7,200 the pending length of 45 minutes comes into force, and the next boundary is 8,100. -/
theorem test_intervalExpiry :
    let iv := { up.interval with plantTime := 7200, startTime := 3600, endTime := some 7200, pendingLength := some 45 }
    let t := ran .intervalExpiry { up with interval := iv }
    (t.interval.endTime, t.interval.length, t.interval.pendingLength) = (some 8100, 45, none) := by decide +kernel

/-- R122. -/
theorem test_plantTimeWrap :
    let t := ran .plantTimeWrap (at_ (2 ^ 32 - 1) up)
    (t.interval.plantTime, t.interval.startTime, t.interval.closing.map Closing.endTime) =
      (0, 0, some (2 ^ 32 - 1)) := by decide +kernel

/-- 6.4: TIME_SET(38,100) at 1,234. -/
theorem test_timeSet :
    let t := ran (.timeSet 0 1 38100) (at_ 1234 up)
    (t.interval.startTime, t.interval.endTime, t.interval.closing.map Closing.endTime) =
      (38100, some 39600, some 1234) := by decide +kernel

/-- The close of 6.10: F0 with L0 and L1, which it feeds, every other consumer disabled. -/
def closing214 : Closing :=
  let line (high : Nat) : LineSnapshot := ⟨true, some .producing, 500000, 45000, high, 0⟩
  { number := 214, startTime := 36000, endTime := 39600, short := false, cleared := false, first := false,
    snapshot :=
      { closingOne.snapshot with
        furnaces := closingOne.snapshot.furnaces.set 0 ⟨true, some .melting, 500000, 40000, 48000, 500, 25⟩,
        lines := (closingOne.snapshot.lines.set 0 (line 55000)).set 1 (line 51000) } }

/-- The closing bank of 6.10 after its settlements. -/
def bank214 : Bank :=
  [(.furnace 0 .producing, 45047520), (.furnace 0 .pulled, 9500000), (.furnace 0 .melted, 10980000),
    (.furnace 0 .cullet, 5225000), (.line 0 .producing, 2100000), (.line 0 .pulled, 5200000),
    (.line 0 .packed, 4680000), (.line 1 .producing, 1719368), (.line 1 .pulled, 4300000),
    (.line 1 .packed, 3900000), (.common, 250200), (.metered, 49117088)].foldl (fun b x => b.put x.1 x.2) .zero

/-- 6.10: the record of interval 214, every field of it. -/
theorem test_record :
    closeRecord closing214 bank214 =
      { number := 214, startTime := 36000, endTime := 39600, short := false, cleared := false, first := false,
        saturated := false, metered := 49117088, common := 250200,
        furnaces := [⟨0, some .melting, 45047520, 0, 9500000, 10980000, 0, 0, 550, ⟨47418, .formed⟩, ⟨48011, .formed⟩, true⟩],
        lines :=
          [⟨0, some .producing, 2100000, 0, 5200000, 4680000, 0, 24657590,
             ⟨4038, .formed⟩, ⟨51457, .formed⟩, ⟨57174, .formed⟩, false⟩,
           ⟨1, some .producing, 1719368, 0, 4300000, 3900000, 0, 20389930,
             ⟨3999, .formed⟩, ⟨51417, .formed⟩, ⟨56691, .formed⟩, true⟩] } := by decide +kernel

theorem test_closeEnd :
    let t := ran .closeEnd closingUp
    (t.ring.map IntervalResult.number, t.interval.closing, t.alerts[(3 : Port)].pending[(14 : Fin 19)]) =
      ([1], none, some []) := by decide +kernel

/-! ## Ring and totals (chapter 7) -/

/-- 7.2: P3 reads record 102 with GAP and 46 newer in a ring of 101 to 148. -/
theorem test_intervalRead :
    ((sent 3 (ran (.intervalRead 3 1) ringUp)).map fun x => x.2.take 6) = some [1, 46, 0, 0, 0, 102] := by
  decide +kernel
theorem test_intervalRead_noRecord : sent 2 (ran (.intervalRead 2 1) ringUp) = some (.noRecord, [0, 0, 0, 149, 1]) := by
  decide +kernel
theorem test_intervalReadAt :
    sent 3 (ran (.intervalReadAt 3 1 100) ringUp) =
      some (.notHeld, [1, 0, 0, 0, 101, 1, 0, 0, 0, 148, 0, 0, 0, 149]) := by decide +kernel
theorem test_cursorSet : sent 3 (ran (.cursorSet 3 1 0) ringUp) = some (.ok, [0, 0, 0, 101, 1]) := by decide +kernel

/-- 7.4: cullet permille 545, SE_FURNACE 47,472 and SE_NORM 48,006. -/
theorem test_totalsRead :
    let a : FurnaceAccount :=
      { sums := { FurnaceSums.zero with producing := 89247520, pulled := 18800000, cullet := 10247000 },
        since := ⟨213, 0, 2, false⟩ }
    let t := ran (.totalsRead 0 1 0) { up with totals := { up.totals with furnaces := up.totals.furnaces.set 0 a } }
    (field 56 4 t, field 69 2 t, field 71 3 t, field 75 3 t) = (213, 545, 47472, 48006) := by decide +kernel
theorem test_campaignReset :
    sent 0 (ran (.campaignReset 0 1 16) closingUp) = some (.ok, [0, 0, 0, 1]) := by decide +kernel
theorem test_clearCounts_busy : sent 0 (ran (.clearCounts 0 1) closingUp) = some (.busy, []) := by decide +kernel
theorem test_clearCounts :
    let t := ran (.clearCounts 0 1) ringUp
    (t.ring, t.interval.cleared, t.cursors[(3 : Port)]) = ([], true, ⟨149, false⟩) := by decide +kernel

/-! ## Proving (chapter 8) -/

theorem test_proveStart :
    sent 2 (ran (.proveStart 2 1 28 600) (withChannel 28 posted (channelAt .live none 60000) (at_ 60001 up))) =
      some (.ok, [0, 0, 234, 97, 2, 88]) := by decide +kernel
/-- 8.4: the request of P1 is refused with C28, P2 and 451 s left. -/
theorem test_proveStart_busy :
    sent 1 (ran (.proveStart 1 1 3 600) { proving with clock := 150000 }) = some (.proverBusy, [28, 2, 1, 195]) := by
  decide +kernel
/-- 8.4: deviation +1,993. -/
theorem test_proveStop :
    (ran (.proveStop 2 1) proving).channels[(28 : Chan)].prove =
      { outcome := .passed, deviation := 1993, channelUnits := 40230, referenceUnits := 40150000, endTime := 60599 } := by
  decide +kernel
theorem test_proveExpiry : (ran .proveExpiry (clocked 601000 proving)).prover.state = .idle := by decide +kernel
theorem test_referencePulse : (ran .referencePulse proving).prover.referenceUnits = 40160000 := by decide +kernel
/-- R155: a deviation of +1,993 takes 20 off the staged trim. -/
theorem test_proveApply :
    sent 2 (ran (.proveApply 2 1 28) (holding 2 28 (withChannel 28 { posted with trim := 7 }
      { channelAt .live none 0 with
        prove := { outcome := .passed, deviation := 1993, channelUnits := 0, referenceUnits := 1, endTime := 0 } } up))) =
      some (.ok, [0, 7, 201, 0, 7, 255, 243, 1]) := by decide +kernel

/-! ## Locks (chapter 9) -/

theorem test_lock : (ran (.lock 3 1 8 1) up).locks[(8 : RegionNo)].hold.map Hold.port = some 3 := by decide +kernel
/-- 9.8, 4 s: P0 joins ahead of P1 under the rank P2, P0, P1, P3. -/
theorem test_lock_wait :
    let s := holding 3 8 { up with config := { up.config with plant := { up.config.plant with rank := [2, 0, 1, 3] } } }
    sent 0 (ran (.lock 0 1 8 0) ((s.setLock 8 { s.locks[(8 : RegionNo)] with waitList := [1] }).setPortLock 1
      { held := none, waited := some 8 })) = some (.queued, [3, 1]) := by decide +kernel
theorem test_lockCancel : sent 0 (ran (.lockCancel 0 1) (holding 0 8 up)) = some (.wrongState, [1, 8]) := by
  decide +kernel
/-- 9.8, 6 s: the reply carries the list before. -/
theorem test_stageWrite :
    sent 3 (ran (.stageWrite 3 1 8 14 (.entries [(4, 600), (5, 300)])) (holding 3 8 up)) =
      some (.ok, [1, 0, 3, 232]) := by decide +kernel
/-- 9.8, 9 s: weights that sum to 900 are rejected with SHARE_SUM, field 14. -/
theorem test_release :
    let g := { posted with entries := [⟨.common, 600⟩, ⟨.furnace 0, 300⟩] }
    let s := withFurnace 0 furnaceOn (furnaceAt .hold) (withFactors up)
    sent 3 (ran (.release 3 1 0) ((holding 3 8 s).setLock 8
      { hold := some { port := 3, staging := .channel g, lastRequest := 0 }, waitList := [] })) =
      some (.rejected, [4, 14]) := by decide +kernel
theorem test_configRead :
    ((sent 1 (ran (.configRead 1 1 44 0) (holding 3 44 up))).map fun x => x.2.drop 14) = some [1, 3, 0] := by
  decide +kernel
/-- 9.8, 39 s. -/
theorem test_lockExpiry :
    let t := ran (.lockExpiry 8) (clocked 30000 (holding 0 8 up))
    (t.locks[(8 : RegionNo)].hold, t.alerts[(0 : Port)].pending[(18 : Fin 19)]) = (none, some [8]) := by decide +kernel

/-- R167: where the holder's request is taken first, the lock does not expire. -/
theorem test_lockExpiry_renewed :
    let t := ran (.configRead 0 1 8 1) (clocked 29999 (holding 0 8 up))
    (ran (.lockExpiry 8) (clocked 30000 t)).locks[(8 : RegionNo)].hold.map Hold.port = some 0 := by decide +kernel

/-! ## Station ports (chapter 10) -/

theorem test_octetReceived :
    (ran (.octetReceived 1 167 true) up).ports[(1 : Port)].receive = .receiving [167] 0 := by decide +kernel
theorem test_octetReceived_framing : ran (.octetReceived 1 167 false) up = up := by decide +kernel
theorem test_gapExpiry :
    (ran (.gapExpiry 1) (setReceive 1 (.receiving [167] 0) (clocked 5 up))).ports[(1 : Port)].receive = .hunting := by decide +kernel
theorem test_lineBreak :
    (ran (.lineBreak 0) (holding 0 8 up)).locks[(8 : RegionNo)].hold = none := by decide +kernel
theorem test_receiveLineReturnsToMark :
    (ran (.receiveLineReturnsToMark 0) (ran (.lineBreak 0) up)).ports[(0 : Port)].atSpace = false := by decide +kernel
theorem test_replySent : (ran (.replySent 0) (ran (.status 0 7) up)).ports[(0 : Port)].service = none := by
  decide +kernel
theorem test_badCommand : sent 0 (ran (.badCommand 0 7 2 []) up) = some (.badCommand, [2]) := by decide +kernel
theorem test_status :
    sent 0 (ran (.status 0 7) up) =
      some (.ok, [0, 1, 0, 0, 0, 0, 1, 0, 0, 0, 1, 1, 1, 0, 0, 0, 0, 0, 0]) := by decide +kernel

/-! ## Alerts and storage (chapters 11 and 12) -/

/-- 11.3: CHANNEL_STALE of C05 is read first and stays. -/
theorem test_alertRead :
    sent 3 (ran (.alertRead 3 1) (raise .intervalClosed none (raise .channelStale (some 5) up))) =
      some (.ok, [1, 4, 1, 5, 2]) := by decide +kernel
/-- 11.3: C05 is LIVE again, so clearing CHANNEL_STALE returns no object. -/
theorem test_alertClear : sent 3 (ran (.alertClear 3 1 4) (raise .channelStale (some 5) up)) = some (.ok, [0]) := by
  decide +kernel
/-- C05 STALE, C09 LIVE and S5 REJECTED, with CONFIG_LOAD_FAIL, MODULE_REJECTED of S1 and S5, and CHANNEL_STALE of C05 and
C09 pending on every port. -/
def conditionsUp : State :=
  { withChannel 5 wired (channelAt .stale none 0) (withChannel 9 wired (channelAt .live none 0) up) with
    slots := up.slots.set 5 { up.slots[5] with state := .rejected .partly },
    alerts := Vector.replicate 4
      { AlertRecord.reset with
        pending := ((AlertRecord.reset.pending.set 4 (some [5, 9])).set 2 (some [1, 5])).set 0 (some []) } }
/-- R184: C05 alone is latched again, and so is S5. -/
theorem test_alertClear_again :
    (sent 3 (ran (.alertClear 3 1 4) conditionsUp), sent 3 (ran (.alertClear 3 1 2) conditionsUp)) =
      (some (.ok, [1, 5]), some (.ok, [1, 5])) := by decide +kernel
/-- 11.3: with mask 6, CHANNEL_STALE alone does not assert the attention output. -/
theorem test_alertMask :
    (ran (.alertMask 3 1 6) (raise .channelStale (some 5) up)).ports[(3 : Port)].attention = false := by decide +kernel
theorem test_save_busy : sent 0 (ran (.save 0 1) (saving 3)) = some (.busy, []) := by decide +kernel
theorem test_save : (ran (.save 0 1) up).save.map Save.accessDue = some 100 := by decide +kernel
theorem test_saveWriteAcknowledged_last :
    ((ran .saveWriteAcknowledged (saving 59)).image.format, (ran .saveWriteAcknowledged (saving 59)).save) =
      (1, none) := by decide +kernel
theorem test_saveAccessTimeout :
    let t := ran .saveAccessTimeout (clocked 100 (saving 3))
    (t.save, t.alerts[(2 : Port)].pending[(1 : Fin 19)]) = (none, some []) := by decide +kernel
theorem test_configLoadDone :
    let t := ran (.configLoadDone true) State.reset
    (t.phase, t.alerts[(2 : Port)].pending[(0 : Fin 19)]) = (.running, some []) := by decide +kernel
theorem test_hardwareReset : (ran .hardwareReset up).phase = .starting := by decide +kernel

/-! ## Witnesses: for each clause of a statement that has hypotheses, a state and operands that meet them together -/

theorem witness_StepRunsFrontCommand :
    ({ up with pending := [.referencePulse, .pulseSample] } : State).pending = .referencePulse :: [.pulseSample] := rfl

theorem witness_IdleStepBringsTheDueEvent :
    up.pending = [] ∧ dueEvents up = [] ∧
      (clocked 1000 State.reset).pending = [] ∧
      dueEvents (clocked 1000 State.reset) =
        (List.finRange 8).map Instr.settleTimerExpiry ++ [.pulseSample] := by decide +kernel

/-- R35, 2.5: a poll that has ended at a moment at which another is due is followed by the start of that one at the same
moment. -/
theorem test_idle_poll_follows :
    let r := slotAt (.ready .serial4) ⟨true, true, true, false⟩
    let s := withChannel 5 polled (channelAt .live (some 7000) 90)
      { clocked 100100 up with
        secondDue := 101000, sampleDue := 101000,
        slots := up.slots.map fun x => { x with settleDue := none, partialDue := none } }
    dueEvents (s.setSlot 1 { r with
      settleDue := none, partialDue := none,
      positions := r.positions.set 1 { counter := 0, nextDue := some 100000, failed := 0 } }) = [.pollStart 1] := by
  decide +kernel

theorem witness_FrameSpellsItsRequest :
    (Request.meterPost 255 (2 ^ 48 - 1) (some 255)).wf = true ∧
      (Request.stageWrite 52 5 (.text (List.replicate 16 0))).wf = true ∧
      (Instr.stageWrite 3 9 0 14 (.entries (List.replicate 6 (255, 65535)))).asRequest =
        some (3, 9, .stageWrite 0 14 (.entries (List.replicate 6 (255, 65535)))) ∧
      (Instr.stageWrite 3 9 0 14 (.entries (List.replicate 6 (255, 65535)))).wf = true := by decide +kernel

/-- A frame with the longest payload. -/
def longFrame : Frame := { tag := 1, code := 2, payload := List.replicate 1024 0 }

theorem witness_OctetsOfAFrameRunItsRequest :
    let s : State := { up with pending := (requestOctets longFrame).map (fun o => .octetReceived 2 o true) ++ [] }
    s.ports[(2 : Port)].receive = .hunting ∧ s.ports[(2 : Port)].atSpace = false ∧
      s.ports[(2 : Port)].service = none ∧ longFrame.payload.length ≤ 1024 ∧
      s.pending = (requestOctets longFrame).map (fun o => .octetReceived 2 o true) ++ [] :=
  ⟨rfl, rfl, rfl, by decide +kernel, rfl⟩

/-- P1 with a partial frame whose last octet came 5 ms ago. -/
def gathering (got : List Octet) : State := setReceive 1 (.receiving got 0) { up with clock := 5 }
/-- The same with a request in service, and with another held. -/
def serving (got : List Octet) (held : Option Frame) : State :=
  (gathering got).setPort 1
    { (gathering got).ports[(1 : Port)] with
      service := some { request := ⟨1, 1, []⟩, reply := ⟨1, .ok, []⟩ }, held := held }

/-- The octets of STATUS with tag 7 but for the last. -/
def statusHead : List Octet := (requestOctets ⟨7, 1, []⟩).take 6
def statusLast : Octet := (requestOctets ⟨7, 1, []⟩).getD 6 0

theorem witness_OctetReceivedEffects :
    up.ports[(1 : Port)].atSpace = false ∧ up.ports[(1 : Port)].receive = .hunting ∧ (168 : Octet) ≠ 167 ∧
      (gathering statusHead).ports[(1 : Port)].receive = .receiving statusHead 0 ∧ (gathering statusHead).clock ≤ 0 + 5 ∧
      progress ([167, 1, 1, 4] ++ [0]) = .gathering ∧ progress ([167, 1, 1, 4] ++ [1]) = .tooLong ∧
      (progress (statusHead ++ [statusLast + 1]) = .complete ∧ checkedFrame (statusHead ++ [statusLast + 1]) = none) ∧
      (progress (statusHead ++ [statusLast]) = .complete ∧ checkedFrame (statusHead ++ [statusLast]) = some ⟨7, 1, []⟩) ∧
      (gathering statusHead).ports[(1 : Port)].service = none ∧
      ((serving statusHead none).ports[(1 : Port)].service ≠ none ∧
        (serving statusHead none).ports[(1 : Port)].held = none ∧
        (serving statusHead none).ports[(1 : Port)].receive = .receiving statusHead 0) ∧
      (serving statusHead (some ⟨2, 1, []⟩)).ports[(1 : Port)].held ≠ none := by decide +kernel

theorem witness_GapReplyAndMark :
    ((gathering [167]).ports[(1 : Port)].receive = .receiving [167] 0 ∧ 0 + 5 ≤ (gathering [167]).clock) ∧
      (setReceive 1 (.receiving [167] 0) up).clock < 0 + 5 ∧ up.ports[(1 : Port)].receive = .hunting ∧
      ((serving [167] none).ports[(1 : Port)].service ≠ none ∧ (serving [167] none).ports[(1 : Port)].held = none) ∧
      ((serving [167] (some ⟨2, 1, []⟩)).ports[(1 : Port)].service ≠ none ∧
        (serving [167] (some ⟨2, 1, []⟩)).ports[(1 : Port)].held = some ⟨2, 1, []⟩) := by decide +kernel

theorem witness_BadCommandAndBadLength_code (r : Request) : requestCode r ≠ (0 : Octet).toNat := by
  cases r <;> exact Nat.succ_ne_zero _

theorem witness_BadCommandAndBadLength_length :
    fixedSizes (17 : Octet).toNat = some [1] ∧ ([1, 2] : List Octet).length ≠ [1].sum ∧ up.phase = .running := by
  decide +kernel

/-- Payloads that fit no METER_POST, and no STAGE_WRITE of C00's entry list or of the plant identity. -/
theorem witness_BadCommandAndBadLength_varying :
    (([] : List Octet).length < 8 ∧ 9 < (List.replicate 10 (0 : Octet)).length) ∧
      (([0, 0, 0, 0, 0, 0, 0, 1] : List Octet).length = 8 ∧ ([0, 0, 0, 0, 0, 0, 0, 1] : List Octet)[7]? = some 1) ∧
      (([0, 0, 0, 0, 0, 0, 0, 0, 5] : List Octet).length = 9 ∧
        ([0, 0, 0, 0, 0, 0, 0, 0, 5] : List Octet)[7]? = some 0) ∧
      (52 : Octet).toNat ≤ 52 ∧
      (fieldForm (regionOf 0).kind (14 : Octet).toNat = some .entries ∧ (6 : Octet).toNat ≤ 6 ∧
        ([1, 0] : List Octet).length ≠ 3 * (6 : Octet).toNat) ∧
      (fieldForm (regionOf 52).kind (5 : Octet).toNat = some .text ∧ (16 : Octet).toNat ≤ 16 ∧
        ([65] : List Octet).length ≠ (16 : Octet).toNat) ∧
      fieldForm (regionOf 52).kind (1 : Octet).toNat = some .ranks := by decide +kernel

/-- R177: a METER_POST that lacks its tag and a STAGE_WRITE that lacks its value are answered with the length received and
the smallest length allowed. -/
theorem test_badLength_smallest :
    sent 0 (serviceFrame 0 ⟨1, 16, [0, 0, 0, 0, 0, 0, 0, 1]⟩ up) = some (.badLength, [0, 8, 0, 8]) ∧
      sent 0 (serviceFrame 0 ⟨1, 98, [52, 0]⟩ up) = some (.badLength, [0, 2, 0, 3]) := by decide +kernel

theorem witness_StartingRefusesAllButStatus :
    (Instr.alertRead 1 2).asRequest = some (1, 2, .alertRead) ∧ Request.alertRead ≠ .status ∧
      State.reset.phase = .starting := by decide +kernel

/-- A start with an image that is good: the blank configuration, saved. -/
def goodImage : Image :=
  { format := 1, body := { config := blankConfiguration, inventories := Vector.replicate 4 (0, 0) },
    crc := imageCheck { config := blankConfiguration, inventories := Vector.replicate 4 (0, 0) } }

theorem witness_ConfigLoadDoneStartsThePart :
    State.reset.phase = .starting ∧ State.reset.image.good true = false ∧ goodImage.good false = false := by
  decide +kernel

theorem witness_ConfigLoadDoneStartsThePart_good :
    ({ State.reset with image := goodImage } : State).image.good true = true := by
  have h : configurationSound goodImage.body.configuration = true := by decide +kernel
  simp only [Image.good, h]
  simp [goodImage]

/-- A configuration with F0 enabled, a TOTAL PORT channel C00 and a pulse SLOT channel C31, all of gas in set A. -/
def startBody : ImageBody :=
  let g := (withFactors up).config
  let booked : List Entry := [⟨.furnace 0, 1000⟩]
  { config :=
      { g with
        furnaces := g.furnaces.set 0 { furnaceOn with openingMass := 9000000, openingCullet := 400 },
        channels := (g.channels.set 0 { posted with entries := booked }).set 31
          { wired with rateCeiling := 50, entries := booked } },
    inventories := (Vector.replicate 4 (0, 0)).set 0 (9000000, 400) }

/-- STARTING with that configuration stored. -/
def startingUp : State :=
  { State.reset with image := { format := 1, body := startBody, crc := imageCheck startBody } }

theorem witness_ConfigLoadDoneStartsThePart_started :
    startingUp.phase = .starting ∧ startingUp.image.good true = true := by
  have h : configurationSound startingUp.image.body.configuration = true := by decide +kernel
  refine ⟨rfl, ?_⟩
  simp only [Image.good, h]
  simp [startingUp]

theorem witness_ConfigLoadDoneStartsThePart_clauses :
    let g := startBody.configuration
    g.furnaces[(0 : Furnace)].enabled = true ∧ g.furnaces[(3 : Furnace)].enabled = false ∧
      g.channels[(0 : Chan)].active = true ∧ g.channels[(31 : Chan)].active = true ∧
      g.channels[(15 : Chan)].active = false := by decide +kernel

/-- The table of R4: a TOTAL PORT channel, a pulse channel against its module, a serial channel against the wrong one. -/
theorem witness_ConfigLoadDoneStartsThePart_table :
    ActivatesTo posted .sensing 0 .basing none ∧
      ActivatesTo wired (.ready .pulse4) 65535 .live (some 65535) ∧
      ActivatesTo polled (.ready .pulse4) 0 (.offline .mismatch) none ∧
      ActivatesTo wired .empty 0 (.offline .slotNotReady) none := by
  refine ⟨⟨?_, ?_, ?_⟩, ⟨?_, ?_, ?_⟩, ⟨?_, ?_, ?_⟩, ⟨?_, ?_, ?_⟩⟩ <;> simp [posted, wired, polled, blankChannel]

theorem witness_SaveIsTakenOnce : up.phase = .running ∧ up.save = none ∧ (saving 0).save ≠ none := by decide +kernel

theorem witness_SaveWritesAndTimeouts :
    ((saving 3).clock < 100 ∧ 100 ≤ (clocked 100 (saving 3)).clock ∧ (saving 3).save.map Save.accessDue = some 100) ∧
    ((saving 0).save.map Save.written, (saving 58).save.map Save.written, (saving 59).save.map Save.written) =
      (some 0, some 58, some 59) := by decide +kernel

theorem witness_CompletedSaveStoresItsSnapshot :
    ∃ v, ({ saving 0 with pending := List.replicate 60 .saveWriteAcknowledged ++ [] } : State).save = some v ∧
      v.written = 0 ∧
      ({ saving 0 with pending := List.replicate 60 .saveWriteAcknowledged ++ [] } : State).pending =
        List.replicate 60 .saveWriteAcknowledged ++ [] := ⟨_, rfl, rfl, rfl⟩

theorem witness_AlertReadTakesTheHighest :
    let s := raise .lockExpired (some 0) (raise .tagUnlisted (some 31) up)
    let k := raise .channelOffline (some 31) s
    up.phase = .running ∧ (∀ j : Fin 19, up.alerts[(0 : Port)].pending[j] = none) ∧
      (s.alerts[(0 : Port)].pending[(8 : Fin 19)] = some [31] ∧ isCondition 8 = false ∧
        ∀ j : Fin 19, s.alerts[(0 : Port)].pending[j] ≠ none →
          levelOf 8 < levelOf j ∨ (levelOf 8 = levelOf j ∧ (8 : Fin 19) ≤ j)) ∧
      (k.alerts[(0 : Port)].pending[(5 : Fin 19)] = some [31] ∧ isCondition 5 = true ∧
        ∀ j : Fin 19, k.alerts[(0 : Port)].pending[j] ≠ none →
          levelOf 5 < levelOf j ∨ (levelOf 5 = levelOf j ∧ (5 : Fin 19) ≤ j)) := by decide +kernel

theorem witness_AlertClearAndMask :
    conditionsUp.phase = .running ∧ 18 < 19 ∧ 15 ≤ 15 ∧ 15 < 16 ∧ isCondition 5 = true ∧ (5 : Fin 19) ≠ 0 ∧
      conditionObjects conditionsUp 4 = some [5] ∧ conditionObjects conditionsUp 2 = some [5] ∧
      conditionsUp.loadFailed = false ∧
      ((ran (.alertClear 3 1 0) conditionsUp).alerts[(3 : Port)].pending[(0 : Fin 19)] = none ∧
        (ran (.alertClear 3 1 0) { conditionsUp with loadFailed := true }).alerts[(3 : Port)].pending[(0 : Fin 19)] =
          some []) ∧
      (∃ t, exec .hardwareReset up = .next t ∧ t.loadFailed = false) ∧
      (saving 59).save.map Save.written = some 59 := ⟨by decide +kernel, by decide, by decide, by decide, by decide,
        by decide, by decide +kernel, by decide +kernel, by decide +kernel, by decide +kernel, ⟨_, rfl, rfl⟩,
        by decide +kernel⟩

theorem witness_RaiseLatchesOnEveryPort :
    (AlertSource.inventoryShort ≠ .lockGranted ∧ AlertSource.inventoryShort ≠ .lockExpired) ∧
      (AlertSource.lockExpired = .lockGranted ∨ AlertSource.lockExpired = .lockExpired) ∧ (1 : Port) ≠ 0 := by
  decide

/-- A PORT channel of a kind in a mode, with a base or without. -/
def postable (kind : ReadingKind) (mode : Mode) (base : Option Nat) : State :=
  withChannel 31 { posted with kind := kind, mode := mode } (channelAt .live base 1010) (at_ 1070 up)

theorem witness_MeterPostIsTaken :
    let s := postable .total .fixed none
    let b := postable .total .tagged (some 999800)
    let d := postable .delta .fixed none
    (s.phase = .running ∧ s.channels[(31 : Chan)].state ≠ .inactive ∧ s.config.channels[(31 : Chan)].source = .port ∧
      s.config.channels[(31 : Chan)].mode ≠ .tagged ∧ s.config.channels[(31 : Chan)].kind = .total ∧
      999999 < s.config.channels[(31 : Chan)].modulus ∧ s.channels[(31 : Chan)].base = none) ∧
      (b.config.channels[(31 : Chan)].mode = .tagged ∧ some 16 ≠ none ∧ 16 ≤ 16 ∧
        b.channels[(31 : Chan)].base = some 999800 ∧ 400 < b.config.channels[(31 : Chan)].modulus ∧
        b.config.channels[(31 : Chan)].rateCeiling * max 1 (min (1070 - 1010) 86400) = 3000) ∧
      (d.config.channels[(31 : Chan)].kind = .delta ∧ 2 ^ 40 - 1 ≤ 2 ^ 40 - 1 ∧ 3000 < 2 ^ 40 - 1) := by decide +kernel

/-- R14's three outcomes against a limit of 3,000: a rollover of 600, a backstep of 50, a jump. -/
theorem witness_MeterPostIsTaken_classes :
    ClassedAs 1000000 3000 999800 400 .booked 600 400 ∧ ClassedAs 1000000 3000 400 350 .backstep 0 400 ∧
      ClassedAs 1000000 3000 400 90400 .clamped 3000 90400 ∧ ClassedAs 1000000 3000 0 3000 .booked 3000 3000 ∧
      ClassedAs 1000000 3000 0 997000 .backstep 0 0 :=
  ⟨⟨600, by decide, by decide⟩, ⟨999950, by decide, by decide⟩, ⟨90000, by decide, by decide⟩,
    ⟨3000, by decide, by decide⟩, ⟨997000, by decide, by decide⟩⟩

theorem witness_MeterPostRefusals :
    let t := postable .total .tagged none
    let d := postable .delta .fixed none
    up.phase = .running ∧ 31 < 32 ∧ 16 < 17 ∧ up.channels[(31 : Chan)].state = .inactive ∧
      ((withChannel 31 wired (channelAt (.offline .slotNotReady) none 0) up).config.channels[(31 : Chan)].source = .slot ∧
        (withChannel 31 wired (channelAt (.offline .slotNotReady) none 0) up).channels[(31 : Chan)].state ≠ .inactive) ∧
      (t.channels[(31 : Chan)].state ≠ .inactive ∧ t.config.channels[(31 : Chan)].source = .port ∧
        t.config.channels[(31 : Chan)].mode = .tagged ∧ t.config.channels[(31 : Chan)].kind = .total ∧
        t.config.channels[(31 : Chan)].modulus ≤ 1000000) ∧
      (d.config.channels[(31 : Chan)].mode ≠ .tagged ∧ d.config.channels[(31 : Chan)].kind = .delta ∧
        2 ^ 40 - 1 < 2 ^ 40) := by decide +kernel

theorem witness_ConversionKeepsEveryCarry :
    let k : CarrierConfig := { factorA := 36000, trimA := 500, factorB := 0, trimB := 0 }
    let s := { up with config := { up.config with carriers := up.config.carriers.set 0 k } }
    (s.config.carriers[(0 : Fin 4)].trim .a ≥ -500 ∧ s.config.carriers[(0 : Fin 4)].trim .a ≤ 500 ∧
      s.config.channels[(0 : Chan)].trim ≥ -500 ∧ s.config.channels[(0 : Chan)].trim ≤ 500 ∧ 0 < 1) ∧
      s.channels[(0 : Chan)].underProve = false ∧ proving.channels[(28 : Chan)].underProve = true := by decide +kernel

theorem witness_RebaseAndStaleness :
    let s := withChannel 0 posted (channelAt .live (some 91900) 1160) (at_ 1460 up)
    let b := withChannel 0 posted (channelAt .basing none 1160) (at_ 1460 up)
    (up.phase = .running ∧ up.channels[(0 : Chan)].state = .inactive) ∧
      (s.config.channels[(0 : Chan)].isTotal = true ∧ s.channels[(0 : Chan)].state = .live) ∧
      (b.channels[(0 : Chan)].state ≠ .inactive ∧ b.channels[(0 : Chan)].state ≠ .live ∧
        b.channels[(0 : Chan)].state ≠ .stale) ∧
      (s.config.channels[(0 : Chan)].active = true ∧ s.config.channels[(0 : Chan)].source = .port ∧
        s.channels[(0 : Chan)].lastReading + s.config.channels[(0 : Chan)].staleTime ≤ s.interval.plantTime) ∧
      b.channels[(0 : Chan)].state = .basing ∧ proverOn s 0 = false := by decide +kernel

/-- A rebase of C28 during the run on it. -/
theorem witness_RebaseAndStaleness_run :
    proving.phase = .running ∧ proving.config.channels[(28 : Chan)].isTotal = true ∧
      proving.channels[(28 : Chan)].state = .live ∧ proverOn proving 28 = true := by decide +kernel

theorem witness_SetSwitchMovesTheCarrier :
    let s := withFactors up
    let h := holding 1 (channelRegion 31) s
    (3 < 4 ∨ 1 < 1) ∧ (3 < 3 ∨ 1 < 2) ∧ (up.phase = .running ∧ (up.config.carriers[Carrier.gas.index]).factor .b = 0) ∧
      ((s.config.carriers[Carrier.gas.index]).factor .a ≠ 0 ∧ ∀ c : Chan, s.locks[channelRegion c].hold = none) ∧
      ((h.config.carriers[Carrier.gas.index]).factor .a ≠ 0 ∧ h.config.channels[(31 : Chan)].carrier = .gas ∧
        (h.locks[channelRegion 31].hold.map Hold.port) = some 1 ∧ (1 : Port) ≠ 0 ∧
        ∀ c' : Chan, c' < 31 → h.locks[channelRegion c'].hold = none) := by decide +kernel

theorem witness_LineChangesRestartSensing :
    let s := withChannel 31 wired (channelAt .live (some 5) 0)
      (up.setSlot 7 (slotAt (.ready .pulse4) ⟨true, true, false, false⟩))
    (up.slots[(7 : Slot)].sense.a ≠ true ∧ up.slots[(7 : Slot)].state.module = none) ∧
      (s.slots[(7 : Slot)].sense.b ≠ false ∧ s.slots[(7 : Slot)].state.module ≠ none ∧ slotOf 31 = 7 ∧
        s.config.channels[(31 : Chan)].active = true ∧ s.config.channels[(31 : Chan)].source = .slot ∧
        s.channels[(31 : Chan)].state.takesReadings = true) ∧
      up.slots[(7 : Slot)].sense.k2 ≠ true := by decide +kernel

/-- S7 with a pulse module and a run on its C28. -/
def provingInSlot : State :=
  withChannel 28 wired { channelAt .live (some 5) 0 with underProve := true }
    { up.setSlot 7 (slotAt (.ready .pulse4) ⟨true, true, false, false⟩) with
      prover := { state := .running 28 2 601000 10000, channelUnits := 0, referenceUnits := 0 } }

theorem witness_LineChangesRestartSensing_run :
    let s := provingInSlot
    s.slots[(7 : Slot)].sense.a ≠ false ∧ s.slots[(7 : Slot)].state.module ≠ none ∧ slotOf 28 = 7 ∧
      s.config.channels[(28 : Chan)].active = true ∧ s.config.channels[(28 : Chan)].source = .slot ∧
      s.channels[(28 : Chan)].state ≠ .inactive ∧ proverOn s 28 = true := by decide +kernel

/-- R7: of a LIVE, an OFFLINE and an INACTIVE channel of a slot that leaves READY, the LIVE one alone has CHANNEL_OFFLINE
raised, and the OFFLINE one changes its cause. -/
theorem witness_LineChangesRestartSensing_offline :
    let s := withChannel 29 polled (channelAt (.offline .mismatch) none 0)
      (withChannel 28 wired (channelAt .live (some 5) 0)
        (up.setSlot 7 (slotAt (.ready .pulse4) ⟨true, true, false, false⟩)))
    let t := ran (.presenceChange 7 false true) s
    s.channels[(29 : Chan)].state.takesReadings = false ∧ s.channels[(30 : Chan)].state = .inactive ∧
      t.channels[(29 : Chan)].state = .offline .slotNotReady ∧
      t.alerts[(3 : Port)].pending[AlertSource.channelOffline.code] = some [28] := by decide +kernel

/-- S7 in SENSING at a time, with sense levels, a settle timer due at 500 ms and a partial timer due at 2000 ms. -/
def sensing (t : Nat) (sense : Sense) : State :=
  clocked t (up.setSlot 7 { slotAt .sensing sense with settleDue := some 500, partialDue := some 2000 })

theorem witness_SettlingDecodesTheLines :
    let s := (sensing 2000 ⟨true, false, false, false⟩).setSlot 7
      { slotAt .sensing ⟨true, false, false, false⟩ with settleDue := none, partialDue := some 2000 }
    let both := sensing 2000 ⟨true, true, false, false⟩
    (up.slots[(7 : Slot)].state = .sensing ∧ up.slots[(7 : Slot)].settleDue = some 500 ∧ up.clock < 500) ∧
      ((sensing 500 ⟨true, false, false, false⟩).slots[(7 : Slot)].settleDue = some 500 ∧
        500 ≤ (sensing 500 ⟨true, false, false, false⟩).clock) ∧
      (up.slots[(7 : Slot)].partialDue = some 2000 ∧ up.clock < 2000) ∧
      (s.slots[(7 : Slot)].state = .sensing ∧ s.slots[(7 : Slot)].partialDue = some 2000 ∧ 2000 ≤ s.clock ∧
        s.slots[(7 : Slot)].sense.a ≠ s.slots[(7 : Slot)].sense.b ∧ s.slots[(7 : Slot)].settleDue = none) ∧
      (both.slots[(7 : Slot)].partialDue = some 2000 ∧ 2000 ≤ both.clock ∧
        both.slots[(7 : Slot)].sense.a = both.slots[(7 : Slot)].sense.b) := by decide +kernel

/-- S7 with its settle timer run out, a pulse channel C28, serial channels C29 and C30 without and with a base, all
OFFLINE, and the code lines of a module. -/
def entering (k1 : Bool) : State :=
  withChannel 30 polled (channelAt (.offline .slotNotReady) (some 7) 0)
    (withChannel 29 polled (channelAt (.offline .mismatch) none 0)
      (withChannel 28 wired (channelAt (.offline .slotNotReady) none 0) (sensing 500 ⟨true, true, k1, false⟩)))

/-- What a PULSE4 and a SERIAL4 module make of these channels: LIVE with base 0, BASING, LIVE with its base, and OFFLINE
with cause MISMATCH where the type is wrong (R8). -/
theorem witness_SettlingDecodesTheLines_ready :
    let pulse := ran (.settleTimerExpiry 7) (entering false)
    let serial := ran (.settleTimerExpiry 7) (entering true)
    (pulse.slots[(7 : Slot)].state = .ready .pulse4 ∧ serial.slots[(7 : Slot)].state = .ready .serial4) ∧
      (pulse.channels[(28 : Chan)].state = .live ∧ pulse.channels[(28 : Chan)].base = some 0 ∧
        pulse.channels[(29 : Chan)].state = .offline .mismatch) ∧
      (serial.channels[(28 : Chan)].state = .offline .mismatch ∧ serial.channels[(29 : Chan)].state = .basing ∧
        serial.channels[(30 : Chan)].state = .live ∧ serial.channels[(30 : Chan)].base = some 7 ∧
        (serial.position 30).nextDue = some 500) := by decide +kernel

theorem witness_PulsesAreCountedAndSampled :
    let s := withChannel 31 wired (channelAt .live (some 5) 0)
      (up.setSlot 7 (slotAt (.ready .pulse4f) ⟨true, true, false, true⟩))
    s.slots[(7 : Slot)].state = .ready .pulse4f ∧
      (up.slots[(7 : Slot)].state ≠ .ready .pulse4 ∧ up.slots[(7 : Slot)].state ≠ .ready .pulse4f) ∧
      (s.slots[slotOf 31].state.counts = true ∧ s.config.channels[(31 : Chan)].active = true ∧
        s.config.channels[(31 : Chan)].source = .slot ∧ s.config.channels[(31 : Chan)].expected = .pulse ∧
        s.channels[(31 : Chan)].state = .live) := by decide +kernel

/-- A sample of C31 within its limit of 1,000 and one held to it, each with the counter 10 past the base. -/
def sampling (weight : Nat) : State :=
  let r := slotAt (.ready .pulse4) ⟨true, true, false, false⟩
  withChannel 31 { wired with rateCeiling := 1000, pulseWeight := weight } (channelAt .live (some 5) 0)
    (up.setSlot 7 { r with positions := r.positions.set 3 { counter := 15, nextDue := none, failed := 0 } })

theorem witness_PulsesAreCountedAndSampled_limit :
    (ran .pulseSample (sampling 100)).alerts[(0 : Port)].pending[(6 : Fin 19)] = none ∧
      (ran .pulseSample (sampling 101)).alerts[(0 : Port)].pending[(6 : Fin 19)] = some [31] := by decide +kernel

/-- S7 with a serial module: C31 due at the present time, and C30 due a millisecond later. -/
def pollDueNow : State :=
  let r := slotAt (.ready .serial4) ⟨true, true, true, false⟩
  withChannel 31 polled (channelAt .live (some 7000) 0) (withChannel 30 polled (channelAt .live (some 7000) 0)
    ({ up with clock := 100 }.setSlot 7 { r with
      positions := (r.positions.set 3 { counter := 0, nextDue := some 100, failed := 0 }).set 2
        { counter := 0, nextDue := some 101, failed := 0 } }))

/-- S7 with C31's poll in flight and a count of failed polls. -/
def pollFlying (failed : Nat) (base : Option Nat) : State :=
  let r := slotAt (.ready .serial4) ⟨true, true, true, false⟩
  withChannel 31 polled (channelAt .live base 0)
    (at_ 60 (up.setSlot 7 { r with
      poll := some { position := 3, address := 9, limit := 200 }, polls := 1,
      positions := r.positions.set 3 { counter := 0, nextDue := some 10000, failed := failed } }))

theorem witness_PollsRunOneAtATime_start :
    pollDueNow.slots[(7 : Slot)].poll = none ∧
      (pollable pollDueNow (chanAt 7 3) = true ∧
        pollDueNow.slots[(7 : Slot)].positions[(3 : Position)].nextDue = some 100 ∧ 100 ≤ pollDueNow.clock) ∧
      (pollable pollDueNow (chanAt 7 2) = true ∧
        pollDueNow.slots[(7 : Slot)].positions[(2 : Position)].nextDue = some 101 ∧ pollDueNow.clock < 101) ∧
      pollable pollDueNow (chanAt 7 1) = false ∧ pollable pollDueNow (chanAt 7 0) = false := by decide +kernel

theorem witness_PollsRunOneAtATime_nothing :
    (pollFlying 0 none).slots[(7 : Slot)].poll ≠ none ∧ up.slots[(7 : Slot)].poll = none ∧
      ∀ q : Position, pollable up (chanAt 7 q) = false := by decide +kernel

theorem witness_PollsRunOneAtATime_reply :
    (pollFlying 0 none).slots[(7 : Slot)].poll = some { position := 3, address := 9, limit := 200 } ∧
      (10 ^ 9 - 1 < (pollFlying 0 none).config.channels[(31 : Chan)].modulus ∧
        (pollFlying 0 none).channels[(31 : Chan)].base = none) ∧
      (pollFlying 0 (some 7000)).channels[(31 : Chan)].base = some 7000 ∧
      (pollFlying 0 (some 7000)).config.channels[(31 : Chan)].modulus ≤ 10 ^ 9 ∧
      min 3 ((pollFlying 1 none).slots[(7 : Slot)].positions[(3 : Position)].failed + 1) ≠ 3 ∧
      (min 3 ((pollFlying 2 none).slots[(7 : Slot)].positions[(3 : Position)].failed + 1) = 3 ∧
        (pollFlying 2 none).channels[(31 : Chan)].state = .live) := by decide +kernel

/-- A reply of another number, one at the reply limit and one past it; an expiry before the limit and at it; a STALE channel
whose poll fails again, and the failing poll of a channel under prove. -/
theorem witness_PollsRunOneAtATime_late :
    let stale := withChannel 31 polled (channelAt .stale none 0) (pollFlying 3 none)
    let run := withChannel 31 polled { channelAt .live none 0 with underProve := true }
      { pollFlying 2 none with
        prover := { state := .running 31 0 60000 1, channelUnits := 0, referenceUnits := 0 } }
    ((pollFlying 0 none).slots[(7 : Slot)].polls = 1 ∧ 2 ≠ 1) ∧ 200 < (clocked 201 (pollFlying 0 none)).clock ∧
      ((clocked 200 (pollFlying 0 none)).clock ≤ 200 ∧ 200 ≤ (clocked 200 (pollFlying 0 none)).clock) ∧
      (pollFlying 0 none).clock < 200 ∧
      (stale.channels[(31 : Chan)].state ≠ .basing ∧ stale.channels[(31 : Chan)].state ≠ .live) ∧
      (min 3 (run.slots[(7 : Slot)].positions[(3 : Position)].failed + 1) = 3 ∧
        run.channels[(31 : Chan)].state = .live ∧ proverOn run 31 = true) := by decide +kernel

theorem witness_SplitGivesWholeQuantity : 0 < ([0, 3, 3] : List Nat).sum := by decide

/-- C31 in a mode with a list of COMMON and F3, and F3 in a state. -/
def placing (mode : Mode) (st : FurnaceState) (on : Bool) : State :=
  withChannel 31 { posted with mode := mode, entries := [⟨.common, 500⟩, ⟨.furnace 3, 500⟩] } (channelAt .live none 0)
    (withFurnace 3 { blankFurnace with enabled := on } (furnaceAt st) up)

/-- The four modes: an entry list without weights of 0, a working consumer and none, a tag that is listed and enabled, one
that is listed and disabled, one that is not listed and none at all. -/
theorem witness_IncrementIsPlacedAndBalances :
    let list := (placing .fixed .melting true).config.channels[(31 : Chan)].entries
    (placing .fixed .melting true).config.channels[(31 : Chan)].mode = .fixed ∧
      (placing .driver .melting true).config.channels[(31 : Chan)].mode = .driver ∧
      ((placing .state .melting true).config.channels[(31 : Chan)].mode = .state ∧
        (list.filter fun n => inProducingClass (placing .state .melting true) n.consumer) = [⟨.furnace 3, 500⟩] ∧
        (list.filter fun n => inProducingClass (placing .state .hold true) n.consumer) = []) ∧
      ((placing .tagged .melting true).config.channels[(31 : Chan)].mode = .tagged ∧ ⟨.furnace 3, 500⟩ ∈ list ∧
        enabled (placing .tagged .melting true).config (.furnace 3) = true ∧
        enabled (placing .tagged .melting false).config (.furnace 3) = false ∧
        ∀ x ∈ list, x.consumer ≠ .line 11) ∧
      (list ≠ [] ∧ (∀ n ∈ list, 0 < n.weight) ∧
        (placeIncrement 31 (2 ^ 48 - 1) none (placing .fixed .melting true)).openBank.saturated = false) := by
  decide +kernel

/-- A tag to a disabled consumer goes to COMMON with TAG_UNLISTED. -/
theorem test_placeTagged_disabled :
    let t := placeIncrement 31 9 (some (.furnace 3)) (placing .tagged .melting false)
    (t.openBank.common, t.alerts[(0 : Port)].pending[(8 : Fin 19)]) = (9, some [31]) := by decide +kernel

theorem witness_SettlementBooksThePool :
    let entries : List Entry := [⟨.line 11, 1⟩, ⟨.common, 1⟩]
    let k := { closingOne with snapshot := { closingOne.snapshot with
      lists := closingOne.snapshot.lists.set 31 (some entries) } }
    entries ≠ [] ∧ (∀ n ∈ entries, 0 < n.weight) ∧ (settle entries 5 .zero).saturated = false ∧
      (∃ n ∈ entries, 0 < driverMass (Bank.zero.put (.line 11 .pulled) 1) n.consumer) ∧
      (∀ n ∈ entries, driverMass .zero n.consumer = 0) ∧ Bank.zero.common ≤ bankLimit ∧
      ({ up with interval := { up.interval with closing := some k } } : State).interval.closing = some k ∧
      k.snapshot.lists[(31 : Chan)] = some entries := by decide +kernel

theorem witness_FurnaceStateRequests :
    let m := withFurnace 3 furnaceOn (furnaceAt .melting) up
    let w := withLine 11 { lineOn with feeding := 3 } (lineAt .holdPending) m
    (up.phase = .running ∧ 3 < 4 ∧ up.config.furnaces[(3 : Furnace)].enabled = false) ∧
      (m.config.furnaces[(3 : Furnace)].enabled = true ∧ m.furnaces[(3 : Furnace)].state = some .melting ∧
        ∀ l : Line, m.config.lines[l].enabled = false) ∧
      (w.config.lines[(11 : Line)].enabled = true ∧ w.config.lines[(11 : Line)].feeding = 3 ∧
        w.lines[(11 : Line)].state = some .holdPending ∧ ∀ l' : Line, l' < 11 → w.config.lines[l'].enabled = false) ∧
      (withFurnace 3 furnaceOn (furnaceAt .hold) up).furnaces[(3 : Furnace)].state = some .hold ∧
      (withFurnace 3 furnaceOn (furnaceAt .cold) up).furnaces[(3 : Furnace)].state = some .cold := by decide +kernel

/-- R65: FURNACE_SHUTDOWN of a furnace that does not exist, is not enabled, or is not in HOLD. -/
theorem test_furnaceShutdown_refused :
    let m := withFurnace 3 furnaceOn (furnaceAt .melting) up
    sent 0 (ran (.furnaceShutdown 0 1 4) up) = some (.range, []) ∧
      sent 0 (ran (.furnaceShutdown 0 1 3) up) = some (.notConfigured, []) ∧
      sent 0 (ran (.furnaceShutdown 0 1 3) m) = some (.wrongState, [0]) := by decide +kernel

theorem witness_FurnaceShutdownDrains :
    let s := withFurnace 3 furnaceOn { shift with state := some .hold } up
    let b := withLine 11 { lineOn with feeding := 3 } (lineAt .hold) s
    (s.phase = .running ∧ s.config.furnaces[(3 : Furnace)].enabled = true ∧
      s.furnaces[(3 : Furnace)].state = some .hold ∧ ∀ l : Line, s.config.lines[l].enabled = false) ∧
      (b.config.lines[(11 : Line)].enabled = true ∧ b.config.lines[(11 : Line)].feeding = 3 ∧
        b.lines[(11 : Line)].state = some .hold ∧ some LineState.hold ≠ some .cold ∧
        ∀ l' : Line, l' < 11 → b.config.lines[l'].enabled = false) := by decide +kernel

/-- F3 in a state with a queue of `n` records of 1 g and last serial 4. -/
def queued (st : FurnaceState) (n : Nat) : State :=
  withFurnace 3 furnaceOn
    { furnaceAt st with lastSerial := 4, queue := List.replicate n ⟨4, 0, 1, 0, 1, 0⟩, inventoryMass := n } up

theorem witness_ChargePostEntersTheQueue :
    let p := 20000000 * (1000 - 170) / 1000 + 20000000
    (3 < 4 ∧ ¬ (1 ≤ 0) ∧ ¬ (20000001 ≤ 20000000) ∧ ¬ (2 ^ 32 ≤ 2 ^ 32 - 1) ∧
      up.config.furnaces[(3 : Furnace)].enabled = false) ∧
    (up.phase = .running ∧ 1 ≤ 2 ^ 32 - 1 ∧ (queued .hold 0).config.furnaces[(3 : Furnace)].enabled = true) ∧
      (queued .cold 0).furnaces[(3 : Furnace)].state = some .cold ∧
      ((queued .hold 0).furnaces[(3 : Furnace)].state ≠ some .cold ∧
        4 ≤ (queued .hold 0).furnaces[(3 : Furnace)].lastSerial) ∧
      ((queued .hold 0).furnaces[(3 : Furnace)].lastSerial < 5 ∧
        10 ^ 12 < (withFurnace 3 furnaceOn { furnaceAt .hold with inventoryMass := 10 ^ 12 - p + 1 } up).furnaces[
          (3 : Furnace)].inventoryMass + p) ∧
      (0 * (1000 - 170) / 1000 + 0 = 0 ∧ 0 < 1 * (1000 - 170) / 1000 + 1) ∧
      (queued .melting 63).furnaces[(3 : Furnace)].queue.length < 64 ∧
      (queued .melting 64).furnaces[(3 : Furnace)].queue = List.replicate 63 ⟨4, 0, 1, 0, 1, 0⟩ ++ [⟨4, 0, 1, 0, 1, 0⟩] ∧
      (queued .melting 64).furnaces[(3 : Furnace)].inventoryMass + 1 ≤ 10 ^ 12 := by decide +kernel

theorem witness_DrawTakesOldestFirst :
    (∀ r ∈ shift.queue, 0 < r.remainingMass ∧ r.remainingMass ≤ r.originalMass) ∧
      (∀ r ∈ shift.queue, r.remainingCullet ≤ r.remainingMass) ∧
      0 < (drawQueue 400 20960001 shift.queue).unbacked ∧ (drawQueue 400 20960000 shift.queue).unbacked = 0 := by
  decide +kernel

/-- R80: a draw of 1 g more than the queue holds raises INVENTORY_SHORT and leaves the furnace without glass. -/
theorem test_draw_short :
    let t := draw 1 20960001 (lineL3 .producing)
    t.openBank.get (.furnace 1 .unbacked) = 1 ∧ t.furnaces[(1 : Furnace)].inventoryMass = 0 ∧
      t.alerts[(2 : Port)].pending[AlertSource.inventoryShort.code] = some [1] := by decide +kernel

/-- Lines and jobs that the line requests refuse first. -/
theorem witness_lineRequests_refused :
    up.phase = .running ∧ 11 < 12 ∧ up.config.lines[(11 : Line)].enabled = false ∧ ¬ 1 ≤ 0 ∧ ¬ 2 ^ 32 ≤ 2 ^ 32 - 1 ∧
      ¬ 20001 ≤ 20000 ∧ ¬ 5 ≤ 4 := by decide +kernel

theorem witness_JobStartAppliesOrLatches :
    ((lineL3 .producing).phase = .running ∧ (lineL3 .producing).config.lines[(3 : Line)].enabled = true ∧
      (lineL3 .producing).lines[(3 : Line)].state = some .producing) ∧
      (1 ≤ 2 ^ 32 - 1 ∧ 1 ≤ 20000 ∧ 1 ≤ 4 ∧ 20000 ≤ 20000 ∧ 4 ≤ 4) ∧
      ((lineL3 .producing).lines[(3 : Line)].current = some job5101 ∧ job5101.id = 5101 ∧ job5101.id ≠ 2 ^ 32 - 1) ∧
      ((lineL3 .cold).lines[(3 : Line)].state = some .cold ∧ LineState.cold ≠ .producing ∧ LineState.cold ≠ .jobChange ∧
        (lineL3 .cold).lines[(3 : Line)].latched = none) ∧
      ((lineL3 .hold).setLine 3 { lineAt .hold with latched := some job5101 }).lines[(3 : Line)].latched ≠ none := by
  decide +kernel

/-- R93: a second job latched in HOLD replaces the first, and the reply says so. -/
theorem test_jobStart_replaced :
    sent 0 (ran (.jobStart 0 1 3 5103 265 4 262)
      ((lineL3 .hold).setLine 3 { lineAt .hold with latched := some job5101 })) = some (.replaced, [3]) := by
  decide +kernel

theorem witness_LineStateRequests :
    up.phase = .running ∧ (lineL3 .cold).config.lines[(3 : Line)].enabled = true ∧
      (lineL3 .jobChange).lines[(3 : Line)].state = some .jobChange ∧
      (lineL3 .hold).lines[(3 : Line)].state = some .hold ∧ (lineL3 .cold).lines[(3 : Line)].state = some .cold ∧
      1 ≤ 1 ∧ 2 ^ 32 - 1 ≤ 2 ^ 32 - 1 := by decide +kernel

/-- L3 in HOLD_PENDING for a resume state. -/
def pendingL3 (resume : ResumeState) : State :=
  (lineL3 .holdPending).setLine 3
    { (lineL3 .holdPending).lines[(3 : Line)] with resume := resume, holdDue := some 60000 }

/-- L3 producing job 5102 with job 5101 as its previous job. -/
def changedL3 : State :=
  (lineL3 .producing).setLine 3
    { lineAt .producing with current := some ⟨5102, 265, 4, 262, 0, 0⟩, previous := some job5101 }

theorem witness_TallyBooksByState :
    (up.phase = .running ∧ 1 ≤ 5101 ∧ 2 ^ 32 - 1 ≤ 2 ^ 32 - 1 ∧
      (lineL3 .producing).config.lines[(3 : Line)].enabled = true ∧
      (lineL3 .producing).lines[(3 : Line)].state = some .producing ∧ LineState.producing ≠ .cold ∧
      (lineL3 .producing).lines[(3 : Line)].current = some job5101 ∧ job5101.id = 5101) ∧
      (lineL3 .jobChange).lines[(3 : Line)].state = some .jobChange ∧
      (lineL3 .hold).lines[(3 : Line)].state = some .hold ∧
      ((pendingL3 .producing).lines[(3 : Line)].state = some .holdPending ∧
        (pendingL3 .producing).lines[(3 : Line)].resume = .producing) ∧
      (pendingL3 .jobChange).lines[(3 : Line)].resume = .jobChange ∧
      (changedL3.lines[(3 : Line)].current.map Job.id = some 5102 ∧ 5102 ≠ 5101 ∧
        changedL3.lines[(3 : Line)].previous = some job5101) ∧
      (5102 ≠ 7 ∧ job5101.id ≠ 7) := by decide +kernel

theorem witness_HoldHandshakeAndResume :
    let cold := withFurnace 1 furnaceOn (furnaceAt .cold) (lineL3 .hold)
    let latched := (lineL3 .hold).setLine 3 { lineAt .hold with latched := some job5101 }
    let bare := (lineL3 .hold).setLine 3 (lineAt .hold)
    ((pendingL3 .producing).lines[(3 : Line)].state = some .holdPending ∧
      (pendingL3 .producing).lines[(3 : Line)].holdDue = some 60000 ∧ (pendingL3 .producing).clock < 60000 ∧
      60000 ≤ (clocked 60000 (pendingL3 .producing)).clock) ∧
      (up.phase = .running ∧ (lineL3 .hold).config.lines[(3 : Line)].enabled = true) ∧
      (lineL3 .producing).lines[(3 : Line)].state = some .producing ∧
      (lineL3 .jobChange).lines[(3 : Line)].state = some .jobChange ∧
      ((lineL3 .hold).lines[(3 : Line)].state = some .hold ∧ LineState.hold ≠ .producing ∧ LineState.hold ≠ .jobChange) ∧
      ((lineL3 .hold).config.furnaces[(1 : Furnace)].enabled = true ∧
        (lineL3 .hold).furnaces[(1 : Furnace)].state = some .melting ∧
        (lineL3 .hold).lines[(3 : Line)].latched = none ∧
        (lineL3 .hold).lines[(3 : Line)].current = some job5101) ∧
      cold.furnaces[(1 : Furnace)].state ≠ some .melting ∧ latched.lines[(3 : Line)].latched = some job5101 ∧
      (bare.lines[(3 : Line)].latched = none ∧ bare.lines[(3 : Line)].current = none) := by decide +kernel

theorem witness_ReadsReportAndChangeNothing :
    up.phase = .running ∧ 31 < 32 ∧ 7 < 8 ∧ 16 < 17 ∧ 17 ≠ 255 ∧ 63 < 64 ∧ 3 < 4 ∧ 11 < 12 ∧ 12 ≠ 255 := by
  decide +kernel

theorem witness_PlantTimeRunsExpiresAndWraps :
    let last := at_ (2 ^ 32 - 1) up
    let busy := { closingUp with interval := { closingUp.interval with plantTime := 2 ^ 32 - 1 } }
    State.reset.phase = .starting ∧ (up.phase = .running ∧ (at_ (2 ^ 32 - 2) up).interval.plantTime < 2 ^ 32 - 1) ∧
      (last.phase = .running ∧ last.interval.plantTime = 2 ^ 32 - 1 ∧ last.interval.closing = none) ∧
      (busy.interval.plantTime = 2 ^ 32 - 1 ∧ busy.interval.closing ≠ none) ∧
      ((at_ 3600 up).interval.endTime = some 3600 ∧ 3600 ≤ (at_ 3600 up).interval.plantTime ∧
        (at_ 3600 up).interval.closing = none) ∧
      (busy.interval.endTime = some 3600 ∧ 3600 ≤ busy.interval.plantTime) ∧
      (at_ 3599 up).interval.plantTime < 3600 := by decide +kernel

theorem witness_TimeSetClosesTheInterval :
    up.phase = .running ∧ 2 ^ 32 - 1 ≤ 2 ^ 32 - 1 ∧ up.interval.closing = none ∧ closingUp.interval.closing ≠ none ∧
      2 ^ 32 - 1 < 2 ^ 32 ∧ 0 < 1440 := by decide +kernel

/-- The close in flight with a close waiting. -/
def waitingUp (w : Waiting) : State := { closingUp with interval := { closingUp.interval with waiting := w } }

theorem witness_CloseEndWritesAndAdds :
    closingUp.interval.closing = some closingOne ∧ closingUp.interval.waiting = .none ∧
      ((waitingUp .expiry).interval.waiting = .expiry ∧ (waitingUp .expiry).interval.endTime = some 3600) ∧
      (waitingUp .wrap).interval.waiting = .wrap ∧ up.interval.closing = none := by decide +kernel

/-- A close in flight that finds the ring full: the oldest record is 101, P2's cursor stands at it and P3's does not. -/
def fullUp : State :=
  { ringUp with
    interval := { ringUp.interval with number := 150, closing := some { closingOne with number := 149 } },
    cursors := (Vector.replicate 4 ⟨149, false⟩).set 2 ⟨101, false⟩ }

theorem witness_CloseEndWritesAndAdds_full :
    let gone := fullUp.ring.take (fullUp.ring.length - 47)
    fullUp.interval.closing = some { closingOne with number := 149 } ∧ gone = [blankRecord 101] ∧
      (blankRecord 101).number = fullUp.cursors[(2 : Port)].number ∧
      (∀ x ∈ gone, x.number ≠ fullUp.cursors[(3 : Port)].number) ∧
      (ran .closeEnd fullUp).cursors[(2 : Port)] = ⟨102, true⟩ := by decide +kernel

theorem witness_FiguresAreRoundedAndHeld :
    1 ≤ 1 ∧ (0 < 1 ∧ 1 ≤ 1) ∧ (40000 * (2 * 300000) ≤ 2 * 1200000 * 10000 + 300000 ∧
      2 * 1200000 * 10000 + 300000 < (40000 + 1) * (2 * 300000) ∧ 40000 ≤ 999999) ∧
      (1000000 * (2 * 1) ≤ 2 * 100 * 10000 + 1 ∧ 2 * 100 * 10000 + 1 < (1000000 + 1) * (2 * 1) ∧ 999999 < 1000000) ∧
      ((figure 500000 45047520 9500000).code ≤ 999999 ∧ (figure 500000 45047520 9500000).mark = .formed) ∧
      ((48011 : Int) * 200000 ≤ 2 * 47418 * (100000 + 25 * (550 - 500)) + 100000 ∧
        2 * 47418 * (100000 + 25 * (550 - 500)) + 100000 < ((48011 : Int) + 1) * 200000) := by decide +kernel

theorem witness_RecordBalancesAndSharesAreWhole :
    let snap : Snapshot := { closingOne.snapshot with
      furnaces := closingOne.snapshot.furnaces.set 3 { closingOne.snapshot.furnaces[3] with enabled := true },
      lines := closingOne.snapshot.lines.set 11
        { closingOne.snapshot.lines[11] with enabled := true, feeding := 3 } }
    let b := Bank.zero.put (.line 11 .pulled) 1
    Bank.zero.energy = Bank.zero.metered ∧ snap.furnaces[(3 : Furnace)].enabled = true ∧
      (11 ∈ sharers snap 3 ∧ 0 < b.lines[(11 : Line)].pulled) ∧
      (∀ l ∈ sharers snap 3, Bank.zero.lines[l].pulled = 0) ∧ snap.lines[(0 : Line)].enabled = false ∧
      (snap.furnaces[(0 : Furnace)].enabled = false ∧
        0 < (Bank.zero.put (.furnace 0 .melted) 1).get (.furnace 0 .melted)) ∧
      0 < (Bank.zero.put (.line 0 .change) 1).get (.line 0 .change) ∧
      ((closeRecord closing214 bank214).furnaces.map FurnaceEntry.outOfBand = [true] ∧
        (closeRecord closing214 bank214).lines.map LineEntry.outOfBand = [false, true]) := by
  decide +kernel

theorem witness_RingReadsFollowTheCursor :
    ringUp.phase = .running ∧ ringUp.cursors[(3 : Port)].number = 102 ∧
      ringUp.ring.find? (fun x => x.number == 102) = some (blankRecord 102) ∧
      (∀ r ∈ ringUp.ring, r.number ≠ ringUp.cursors[(2 : Port)].number) ∧
      (1 ≤ 101 ∧ ringUp.ring.find? (fun x => x.number == 101) = some (blankRecord 101)) ∧
      (∀ r ∈ ringUp.ring, r.number ≠ 2 ^ 32 - 1) ∧ up.ring = [] ∧ ringUp.ring.head? = some (blankRecord 101) ∧
      ringUp.ring.getLast? = some (blankRecord 148) ∧ 2 < 3 := by decide +kernel

theorem witness_TotalsAreReadResetAndCleared :
    up.phase = .running ∧ 16 < 17 ∧ closingUp.interval.closing ≠ none ∧ up.interval.closing = none := by
  decide +kernel

theorem witness_ReferencePulsesCountInARun :
    let s := withChannel 31 posted (channelAt .live none 0) up
    up.prover.state = .idle ∧ proving.prover.state = .running 28 2 601000 10000 ∧
      (s.phase = .running ∧ s.prover.state = .idle ∧ s.channels[(31 : Chan)].state = .live ∧ 60 ≤ 60 ∧ 60 ≤ 7200) := by
  decide +kernel

/-- A run started by PROVE_START has the committed pulse weight in use. -/
theorem witness_ReferencePulsesCountInARun_started :
    ∃ t, exec (.proveStart 0 1 31 7200) (withChannel 31 posted (channelAt .live none 0) up) = .next t := ⟨_, rfl⟩

theorem witness_ProveRunsStartAndEnd :
    let s := withChannel 31 posted (channelAt .live none 0) up
    (up.phase = .running ∧ up.prover.state = .idle ∧ 60 ≤ 60 ∧ 7200 ≤ 7200) ∧
      (s.prover.state = .idle ∧ s.channels[(31 : Chan)].state = .live) ∧ up.channels[(31 : Chan)].state ≠ .live ∧
      (proving.prover.state = .running 28 2 601000 10000 ∧ proving.phase = .running) ∧
      (601000 ≤ (clocked 601000 proving).clock ∧ proving.clock < 601000) ∧
      (0 < 1 ∧ deviation 1 1 = 999999 ∧ (1999997 * (1 : Int) ≤ 2 * ((1000 * (1 : Int) - 1) * 10 ^ 6)) ∧
        deviation 0 1 = -999999 ∧ 2 * ((1000 * (0 : Int) - 1) * 10 ^ 6) ≤ -1999997 * (1 : Int)) ∧
      ((31 < 32 ∨ 60 < 60 ∨ 7200 < 60) ∧ (31 < 31 ∨ 59 < 60 ∨ 7200 < 59) ∧ (31 < 31 ∨ 7201 < 60 ∨ 7200 < 7201)) ∧
      (0 < 40150000 ∧ deviation 40230 40150000 < 999999 ∧ -999999 < deviation 40230 40150000) := by decide +kernel

/-- P2 holds the region of C28, whose record is PASSED. -/
def proved (o : ProveOutcome) : State :=
  holding 2 28 (withChannel 28 posted
    { channelAt .live none 0 with
      prove := { outcome := o, deviation := -50, channelUnits := 0, referenceUnits := 1, endTime := 0 } } up)

theorem witness_ProveApplyCorrectsTheStagedTrim :
    let h : Hold := { port := 2, staging := .channel posted, lastRequest := 0 }
    (up.phase = .running ∧ up.locks[channelRegion 28].hold = none) ∧
      ((proved .passed).locks[channelRegion 28].hold = some h ∧ h.port = 2 ∧ (1 : Port) ≠ 2) ∧
      ((proved .passed).prover.state = .idle ∧ (proved .passed).channels[(28 : Chan)].prove.outcome = .passed) ∧
      (proved .aborted).channels[(28 : Chan)].prove.outcome ≠ .passed ∧
      ((holding 2 28 proving).prover.state = .running 28 2 601000 10000 ∧
        (holding 2 28 proving).locks[channelRegion 28].hold = some h) := by decide +kernel

/-- P3 holds region 52, and P1 waits for it. -/
def waited : State :=
  ((holding 3 52 up).setLock 52 { (holding 3 52 up).locks[(52 : RegionNo)] with waitList := [1] }).setPortLock 1
    { held := none, waited := some 52 }

theorem witness_LockGrantsQueuesOrRefuses :
    up.phase = .running ∧ (52 < 53 ∨ 1 < 1) ∧ 1 ≤ 1 ∧ waited.portLocks[(3 : Port)].held = some 52 ∧
      (waited.portLocks[(1 : Port)].held = none ∧ waited.portLocks[(1 : Port)].waited = some 52) ∧
      (up.portLocks[(0 : Port)].held = none ∧ up.portLocks[(0 : Port)].waited = none ∧
        up.locks[(52 : RegionNo)].hold = none) ∧
      (waited.portLocks[(0 : Port)].held = none ∧ waited.portLocks[(0 : Port)].waited = none ∧
        (waited.locks[(52 : RegionNo)].hold.map Hold.port) = some 3 ∧ (0 : Port) ∉ waited.locks[(52 : RegionNo)].waitList ∧
        waited.locks[(52 : RegionNo)].waitList.Pairwise
          (fun x y => rankAt waited.config.plant.rank x < rankAt waited.config.plant.rank y)) := by decide +kernel

theorem witness_StageWritesAndReads :
    let h : Hold := { port := 3, staging := .plant blankPlant, lastRequest := 0 }
    (up.phase = .running ∧ 52 < 53 ∧ 1 < 2 ∧ fieldForm (regionOf 52).kind 7 = none) ∧
      (up.locks[(52 : RegionNo)].hold = none ∧ fieldForm (regionOf 52).kind 6 = some .text ∧
        countOver (.text (List.replicate 16 126)) = false) ∧
      ((holding 3 52 up).locks[(52 : RegionNo)].hold = some h ∧ h.port = 3 ∧
        inForm .text (.text (List.replicate 16 126)) = true ∧ h.staging.kind = (regionOf 52).kind) ∧
      (inForm .text (.text [31]) = false ∧ countOver (.text [31]) = false) ∧
      (6 < (List.replicate 7 (0, 1) : List (Nat × Nat)).length ∧ 16 < (List.replicate 17 (65 : Octet)).length) := by
  decide +kernel

/-- P3 holds PLANT with a staging copy. -/
def staged (v : PlantConfig) : State :=
  (holding 3 52 up).setLock 52 { hold := some { port := 3, staging := .plant v, lastRequest := 0 }, waitList := [] }

theorem witness_ReleaseExpiryAndBreakPassTheRegionOn :
    let same : RegionValue := .plant { blankPlant with intervalLength := 30 }
    let other : RegionValue := .plant { blankPlant with lockTimeout := 10 }
    (up.locks[(52 : RegionNo)].waitList = [] ∧ waited.locks[(52 : RegionNo)].waitList = 1 :: []) ∧
      (up.phase = .running ∧ 1 < 2 ∧ up.portLocks[(3 : Port)].held = none ∧ 1 ≤ 1) ∧
      ((staged blankPlant).portLocks[(3 : Port)].held = some 52 ∧
        ((staged blankPlant).locks[(52 : RegionNo)].hold.map Hold.port) = some 3) ∧
      (same.kind = (regionOf 52).kind ∧ (adopt 52 same up).config.plant.lockTimeout = up.config.plant.lockTimeout) ∧
      (other.kind = (regionOf 52).kind ∧ (adopt 52 other up).config.plant.lockTimeout ≠ up.config.plant.lockTimeout) ∧
      (up.config.get (regionOf 52) = .plant blankPlant) ∧
      ((holding 3 52 up).clock < 0 + 1000 * (holding 3 52 up).config.plant.lockTimeout ∧
        0 + 1000 * (holding 3 52 up).config.plant.lockTimeout ≤ (clocked 30000 (holding 3 52 up)).clock ∧
        (holding 3 52 up).locks[(52 : RegionNo)].hold.map Hold.lastRequest = some 0 ∧
        up.locks[(52 : RegionNo)].hold = none) ∧
      ((ran (.lineBreak 0) up).ports[(0 : Port)].atSpace = true ∧ up.ports[(0 : Port)].atSpace = false ∧
        up.portLocks[(0 : Port)].held = none ∧ up.portLocks[(0 : Port)].waited = none) ∧
      ((3 : Port) ∉ waited.locks[(52 : RegionNo)].waitList ∧ waited.portLocks[(3 : Port)].waited = none) ∧
      (waited.portLocks[(1 : Port)].held = none ∧ waited.portLocks[(1 : Port)].waited = some 52) := by decide +kernel

/-- An interval length of 7 minutes with a rank that names a port twice fails INTERVAL_LENGTH first; the blank PLANT region
fails nothing (R165). -/
theorem witness_ReleaseExpiryAndBreakPassTheRegionOn_fails :
    let bad : RegionValue := .plant { blankPlant with intervalLength := 7, rank := [0, 0, 1, 2] }
    (Fails up 52 bad .intervalLength ∧ ∀ y, Fails up 52 bad y → Reason.intervalLength.code ≤ y.code) ∧
      ∀ why, ¬ Fails up 52 (.plant blankPlant) why := by
  refine ⟨⟨?_, fun y h => ?_⟩, fun why h => ?_⟩
  · show ¬ (5 ≤ 7 ∧ 1440 % 7 = 0)
    decide
  · cases y <;> first | exact h.elim | decide
  · cases why with
    | intervalLength => exact absurd h (show ¬ ¬ (5 ≤ 60 ∧ 1440 % 60 = 0) by decide)
    | rankInvalid =>
      exact absurd h (show ¬ ¬ (([0, 1, 2, 3] : List Port).length = 4 ∧ ∀ p : Port, p ∈ [0, 1, 2, 3]) by decide)
    | _ => exact h

/-- A TOTAL channel's modulus is part of its metering identity, its trim is not (R6). -/
theorem witness_ReleaseExpiryAndBreakPassTheRegionOn_identity :
    IdentityChanged posted { posted with modulus := 7 } ∧ ¬ IdentityChanged posted { posted with trim := 7 } := by
  simp [IdentityChanged, posted, blankChannel]

/-- The kinds of adoption: an INACTIVE channel activated, a LIVE one whose modulus changes during a run, one deactivated
with a DRIVER pool, one whose stale time has run out; a furnace and a line enabled and disabled; a length that is pending. -/
theorem witness_ReleaseExpiryAndBreakPassTheRegionOn_adopted :
    let driver : ChannelConfig := { posted with mode := .driver }
    let full := (withChannel 31 driver (channelAt .live (some 5) 0) up).setPool 31 ⟨9, 0⟩
    let late := at_ 100 (withChannel 31 posted (channelAt .live (some 5) 0) up)
    ((adopt 31 (.channel posted) up).channels[(31 : Chan)].state = .basing) ∧
      (proverOn proving 28 = true ∧
        (adopt 28 (.channel { posted with modulus := 7 }) proving).channels[(28 : Chan)].prove.outcome = .aborted) ∧
      ((adopt 31 (.channel { driver with active := false }) full).channels[(31 : Chan)].state = .inactive ∧
        (adopt 31 (.channel { driver with active := false }) full).pools[(31 : Chan)].opened = 0) ∧
      (adopt 31 (.channel { posted with staleTime := 100 }) late).channels[(31 : Chan)].state = .stale ∧
      (adopt 36 (.furnace furnaceOn) up).furnaces[(0 : Furnace)].state = some .hold ∧
      (adopt 37 (.furnace blankFurnace) (withFurnace 1 furnaceOn shift up)).openBank.get (.furnace 1 .drained) =
        20960000 ∧
      (adopt 40 (.line lineOn) up).lines[(0 : Line)].state = some .hold ∧
      (adopt 52 (.plant { blankPlant with intervalLength := 45 }) up).interval.pendingLength = some 45 := by
  decide +kernel

/-! The premises of the invariants' steps, each at a state with a command in its queue. -/

theorem witness_StepKeepsAttention :
    let s := { raise .seBand (some 4) up with pending := [.alertMask 0 1 4] }
    (∀ p : Port, s.ports[p].attention = s.alerts[p].wantsAttention) ∧ ∃ t, step s = .next t :=
  ⟨by decide +kernel, _, rfl⟩

theorem witness_StepKeepsTheRing : RingOrdered { ringUp with pending := [.clearCounts 0 1] } := by
  refine ⟨by decide +kernel, by decide +kernel, ?_, ?_, ?_⟩
  · intro r h
    have hr : (ringUp.ring.getLast?).map IntervalResult.number = some 148 := by decide +kernel
    have hw : writeNumber ringUp = 149 := by decide +kernel
    rw [show ringUp.ring.getLast? = some r from h] at hr
    have : r.number = 148 := by simpa using hr
    rw [show writeNumber { ringUp with pending := [.clearCounts 0 1] } = 149 from hw, this]
  · intro k h
    exact absurd h (by simp [ringUp, up, State.reset, IntervalRecord.reset])
  · decide +kernel

theorem witness_StepKeepsTheLockTable : LocksAgree { waited with pending := [.lineBreak 3] } := by
  have h : ∀ r : RegionNo, (waited.locks[r].hold = none → waited.locks[r].waitList = []) ∧
      (waited.locks[r].hold.all fun h =>
        waited.portLocks[h.port].held = some r && h.staging.kind = (regionOf r).kind) = true := by decide +kernel
  refine ⟨fun r => ?_, by decide +kernel, by decide +kernel⟩
  have h := h r
  show match waited.locks[r].hold with
    | none => waited.locks[r].waitList = []
    | some h => waited.portLocks[h.port].held = some r ∧ h.staging.kind = (regionOf r).kind
  cases hk : waited.locks[r].hold with
  | none => exact h.1 hk
  | some k =>
    have h2 := h.2
    rw [hk] at h2
    simpa [Option.all, -Fin.getElem_fin] using h2

theorem witness_StepKeepsTheProver_marks :
    (∀ c : Chan, proving.channels[c].underProve = true ↔ c = 28) ∧
      proving.prover.state = .running 28 2 601000 10000 ∧ proving.channels[(28 : Chan)].state = .live ∧
      (∀ c : Chan, proving.channels[c].state = .inactive ↔ proving.config.channels[c].active = false) ∧
      ∀ sl : Slot, proving.slots[sl].poll = none := by decide +kernel

theorem witness_StepKeepsTheProver : ProverAgrees { proving with pending := [.proveExpiry] } := by
  obtain ⟨h1, h2, h3, h4, h5⟩ := witness_StepKeepsTheProver_marks
  refine ⟨fun c => (h1 c).trans ⟨?_, ?_⟩, ?_, h4, nofun, ?_⟩
  · rintro rfl
    exact ⟨_, _, _, h2⟩
  · rintro ⟨p, t, w, h⟩
    exact (ProverState.running.inj (h2.symm.trans h)).1.symm
  · intro c p t w h
    obtain rfl := (ProverState.running.inj (h2.symm.trans h)).1
    exact h3
  · intro sl q h
    exact absurd ((h5 sl).symm.trans h) (by simp)

theorem witness_StepKeepsTheWidths : WithinWidths { up with pending := [.meterPost 0 1 0 0 none] } := by
  refine ⟨Bank.within_zero, Bank.within_zero, ⟨?_, ?_, ?_, ?_⟩, ?_, ?_, ?_, ?_, ?_⟩
  · intro f k
    revert f
    cases k <;> decide +kernel
  · intro l k
    revert l
    cases k <;> decide +kernel
  all_goals decide +kernel

theorem witness_StepKeepsTheQueues : QueuesSound { queued .melting 3 with pending := [.chargePost 0 1 3 5 1 1] } := by
  intro f
  refine ⟨?_, ?_, ?_, ?_, ?_⟩ <;> revert f <;> decide +kernel

/-- F1 of 4.5.2 with its region held and a save in flight. -/
def stockedUp : State :=
  { holding 0 37 (withFurnace 1 furnaceOn shift up) with
    save := (saving 3).save, pending := [.chargePost 0 1 1 18 1 1] }

theorem witness_StepKeepsTheQueues_ordered : QueuesSound stockedUp ∧ QueuesOrdered stockedUp := by
  have hs : ∀ r : RegionNo, (stockedUp.locks[r].hold.all fun h =>
      match h.staging with
      | .furnace g => decide (g.openingMass ≤ inventoryLimit ∧ g.openingCullet ≤ 1000)
      | _ => true) = true := by decide +kernel
  refine ⟨fun f => ⟨?_, ?_, ?_, ?_, ?_⟩, fun f => ⟨?_, ?_, ?_, ?_, ?_⟩, fun f => ⟨?_, ?_⟩, fun r h g hh hg => ?_,
    fun f => ⟨?_, ?_⟩, fun v f hv => ?_⟩
  rotate_left 12
  · have h2 := hs r
    rw [hh] at h2
    simpa [Option.all, hg, openingInRange] using h2
  rotate_left 2
  · obtain rfl := Option.some.inj hv
    constructor <;> revert f <;> decide +kernel
  all_goals revert f; decide +kernel

theorem witness_StepKeepsTheFurnacesMelting :
    let s := { lineL3 .producing with pending := [.furnaceHold 0 1 1] }
    LinesFed s ∧ s.config.lines[(3 : Line)].enabled = true ∧ s.lines[(3 : Line)].state = some .producing := by
  refine ⟨?_, by decide +kernel, by decide +kernel⟩
  unfold LinesFed
  decide +kernel

/-- L3 producing, with 7 g pulled from F1, 5 kJ of common energy and 7 kJ in C31's open pool. -/
def balancedUp : State :=
  { (lineL3 .producing).setPool 31 ⟨7, 0⟩ with
    openBank := (((Bank.zero.put .metered 12).put .common 5).put (.line 3 .pulled) 7).put (.furnace 1 .pulled) 7,
    pending := [.tallyPost 0 1 3 5101 12001 31500] }

theorem witness_StepKeepsTheBalance : BooksBalance balancedUp ∧ balancedUp.openBank.saturated = false :=
  ⟨⟨by decide +kernel, by decide +kernel, by decide +kernel⟩, rfl⟩

end Sys2Proof.Tests
end

section
/-! PROOF. How the commands of the part reach the operations: the rows that are requests, the rows of the link, and what a
property must survive to survive every step. -/

namespace Sys2Proof.Machine

/-! ## Rows -/

/-- A request row is the taking of its request. -/
theorem exec_request {i : Instr} {p : Port} {tag : Octet} {r : Request} (h : i.asRequest = some (p, tag, r)) (s : State) :
    exec i s = .next (serve p tag r (requestOp p r) s) := by
  cases i <;> simp only [Instr.asRequest, Option.some.injEq, Prod.mk.injEq, reduceCtorEq] at h <;>
    obtain ⟨rfl, rfl, rfl⟩ := h <;> rfl

/-- The rows by which a port receives and sends (chapter 10). -/
def onLink : Instr → Bool
  | .octetReceived .. | .gapExpiry _ | .lineBreak _ | .replySent _ | .badCommand .. | .receiveLineReturnsToMark _ => true
  | _ => false

/-- What a property of the part must survive for the requests and the link to keep it. -/
structure LinkKeeps (P : State → Prop) : Prop where
  /-- A port's record changes, its attention output apart. -/
  port : ∀ (s : State) (p : Port) (r : PortRecord), r.attention = s.ports[p].attention → P s → P (s.setPort p r)
  /-- A request's operation is carried out. -/
  request : ∀ (p : Port) (r : Request) (s : State), P s → P (requestOp p r s).after
  /-- A break takes a port out of the lock table. -/
  drop : ∀ (p : Port) (s : State), P s → P (dropLocks p s)

section
variable {P : State → Prop} (k : LinkKeeps P)
include k

theorem LinkKeeps.answer (p : Port) (fr : Frame) {t : Taken} (h : P t.after) : P (answer p fr t) :=
  k.port _ p _ rfl h

theorem LinkKeeps.serve (p : Port) (tag : Octet) (r : Request) {s : State} (h : P s) :
    P (serve p tag r (requestOp p r) s) := by
  refine k.answer p _ ?_
  unfold gate
  split
  · exact h
  · exact k.request p r s h

theorem LinkKeeps.serviceFrame (p : Port) (fr : Frame) {s : State} (h : P s) : P (serviceFrame p fr s) := by
  refine k.answer p fr ?_
  unfold takeFrame
  split
  · exact h
  · split
    · exact h
    · split
      · exact h
      · exact h
      · exact h
      · exact k.request p _ s h

theorem LinkKeeps.setReceive (p : Port) (r : ReceiveState) {s : State} (h : P s) : P (setReceive p r s) :=
  k.port s p _ rfl h

theorem LinkKeeps.gatherOctet (p : Port) (got : List Octet) {s : State} (h : P s) : P (gatherOctet p got s) := by
  unfold Machine.gatherOctet
  split
  · exact k.setReceive p _ h
  · exact k.setReceive p _ h
  · have hs := k.setReceive p .hunting h
    simp only []
    split
    · unfold arrive
      simp only []
      split
      · exact k.serviceFrame p _ hs
      · split
        · exact k.port _ p _ rfl hs
        · exact hs
    · exact hs

/-- The rows of the link keep what the requests keep. -/
theorem LinkKeeps.exec_link {i : Instr} (hi : onLink i = true) {s t : State} (h : P s)
    (he : exec i s = .next t) : P t := by
  cases i
  case octetReceived p o ok =>
    obtain rfl := Host.Outcome.next.inj he
    dsimp only
    split
    · exact h
    · split
      · exact k.setReceive p _ h
      · split
        · exact k.setReceive p _ h
        · exact k.gatherOctet p _ h
  case gapExpiry p =>
    obtain rfl := Host.Outcome.next.inj he
    split
    · exact h
    · split
      · exact k.setReceive p _ h
      · exact h
  case lineBreak p =>
    obtain rfl := Host.Outcome.next.inj he
    dsimp only
    split
    · exact h
    · exact k.drop p _ (k.port s p _ rfl h)
  case replySent p =>
    obtain rfl := Host.Outcome.next.inj he
    dsimp only
    split
    · exact h
    · have hs := k.port s p { s.ports[p] with service := none, held := none } rfl h
      split
      · exact hs
      · exact k.serviceFrame p _ hs
  case badCommand p tag code payload =>
    obtain rfl := Host.Outcome.next.inj he
    exact k.serviceFrame p _ h
  case receiveLineReturnsToMark p =>
    obtain rfl := Host.Outcome.next.inj he
    exact k.port s p _ rfl h
  all_goals exact absurd hi Bool.false_ne_true

/-- A command keeps what the requests and the link keep, if it does so where it is an event. -/
theorem LinkKeeps.exec {i : Instr} {s t : State} (event : i.asRequest = none → onLink i = false → P t) (h : P s)
    (he : Machine.exec i s = .next t) : P t := by
  cases hr : i.asRequest with
  | some q =>
    obtain ⟨p, tag, r⟩ := q
    obtain rfl := Host.Outcome.next.inj ((exec_request hr s).symm.trans he)
    exact k.serve p tag r h
  | none =>
    cases hl : onLink i with
    | true => exact k.exec_link hl h he
    | false => exact event hr hl

end

/-- A step keeps what every command keeps, if neither the queue nor the own clock matters to it. -/
theorem step_keeps {P : State → Prop} (queue : ∀ (s : State) (q : List Instr), P s → P { s with pending := q })
    (clock : ∀ (s : State) (n : Nat), P s → P { s with clock := n })
    (hexec : ∀ (i : Instr) (s t : State), P s → exec i s = .next t → P t) {s t : State} (h : P s)
    (ht : step s = .next t) : P t := by
  unfold step at ht
  split at ht
  · obtain rfl := Host.Outcome.next.inj ht
    unfold idle
    split
    · exact clock s _ h
    · exact queue s _ h
  · next c rest _ => exact hexec c _ t (queue s rest h) ht

end Sys2Proof.Machine
end

section
/-! PROOF. The sums, carries and counters of the part: what a property must survive to be kept by every command, shown once
for each shared operation, then for the requests and the events. -/

namespace Sys2Proof.Machine

/-! ## Campaign totals (R141, R142) -/

theorem FurnaceSums.plus_get (a x : FurnaceSums) (k : FurnaceKey) :
    (a.plus x).get k = satAdd totalsLimit (a.get k) (x.get k) := by
  cases k <;> rfl

theorem LineSums.plus_get (a x : LineSums) (k : LineKey) :
    (a.plus x).get k = satAdd totalsLimit (a.get k) (x.get k) := by
  cases k <;> rfl

/-- What the end of a close adds is held at the limit. -/
theorem addTotals_within (r : IntervalResult) (b : Bank) (t : Totals) : (addTotals r b t).within := by
  refine ⟨fun f k => ?_, fun l k => ?_, fun l => ?_, satAdd_le ..⟩
  · simp only [addTotals, get_ofFn, FurnaceAccount.close, FurnaceSums.plus_get]
    exact satAdd_le ..
  · simp only [addTotals, get_ofFn, LineAccount.close, LineSums.plus_get]
    exact satAdd_le ..
  · simp only [addTotals, get_ofFn, LineAccount.close]
    exact satAdd_le ..

theorem FurnaceSums.zero_get (k : FurnaceKey) : FurnaceSums.zero.get k = 0 := by cases k <;> rfl

theorem LineSums.zero_get (k : LineKey) : LineSums.zero.get k = 0 := by cases k <;> rfl

theorem resetAccount_within (since : Since) (c : Consumer) {t : Totals} (h : t.within) :
    (resetAccount since c t).within := by
  obtain ⟨hf, hl, hm, hc⟩ := h
  cases c with
  | furnace f =>
    refine ⟨fun f' k => ?_, hl, hm, hc⟩
    simp only [resetAccount, get_set]
    split
    · rw [FurnaceSums.zero_get]; exact Nat.zero_le _
    · exact hf f' k
  | line l =>
    refine ⟨hf, fun l' k => ?_, fun l' => ?_, hc⟩ <;> simp only [resetAccount, get_set] <;> split
    · rw [LineSums.zero_get]; exact Nat.zero_le _
    · exact hl l' k
    · exact Nat.zero_le _
    · exact hm l'
  | common => exact ⟨hf, hl, hm, Nat.zero_le _⟩

theorem zeroed_within (n t : Nat) : (Totals.zeroed n t).within := by
  refine ⟨fun f k => ?_, fun l k => ?_, fun l => ?_, Nat.zero_le _⟩
  · simp only [Totals.zeroed, Fin.getElem_fin, Vector.getElem_replicate, FurnaceSums.zero_get, Nat.zero_le]
  · simp only [Totals.zeroed, Fin.getElem_fin, Vector.getElem_replicate, LineSums.zero_get, Nat.zero_le]
  · simp only [Totals.zeroed, Fin.getElem_fin, Vector.getElem_replicate, Nat.zero_le]

/-- A bank's saturated mark is no accumulator. -/
theorem Bank.get_mark (b : Bank) (m : Bool) (a : Account) : ({ b with saturated := m } : Bank).get a = b.get a := by
  cases a <;> rfl

/-! ## The widths of one record -/

/-- A pool's halves are within 0 to 2^48 - 1 (R51). -/
def Pool.fits (q : Pool) : Prop := q.opened ≤ bankLimit ∧ q.closing ≤ bankLimit

/-- A carry is below one kilojoule (R2). -/
def ChannelRecord.fits (r : ChannelRecord) : Prop := r.carry < carryUnit

/-- Proving sums are within 0 to 2^64 - 1 (R147). -/
def Prover.fits (r : Prover) : Prop := r.channelUnits ≤ proverLimit ∧ r.referenceUnits ≤ proverLimit

/-- A pulse counter is below 65,536 and at most 3 failed polls are counted (R25). -/
def PositionRecord.fits (r : PositionRecord) : Prop := r.counter < 65536 ∧ r.failed ≤ 3

theorem zero_lt_carryUnit : 0 < carryUnit := Nat.pow_pos (Nat.succ_pos 9)

/-- Two states agree in every block that holds a sum, a carry or a counter, and in the mark of a failed load. -/
structure SameSums (s t : State) : Prop where
  openBank    : t.openBank = s.openBank
  closingBank : t.closingBank = s.closingBank
  totals      : t.totals = s.totals
  pools       : t.pools = s.pools
  channels    : t.channels = s.channels
  prover      : t.prover = s.prover
  slots       : t.slots = s.slots
  loadFailed  : t.loadFailed = s.loadFailed

/-- A property that looks at sums, carries, counters and the mark of a failed load alone, and that every write to them
keeps which keeps their widths. -/
structure KeptInWidths (P : State → Prop) : Prop where
  same     : ∀ {s t : State}, P s → SameSums s t → P t
  banks    : ∀ {s : State} {o c : Bank}, P s →
    (s.openBank.within → s.closingBank.within → o.within ∧ c.within) → P { s with openBank := o, closingBank := c }
  totals   : ∀ {s : State} {x : Totals}, P s → (s.totals.within → x.within) → P { s with totals := x }
  pools    : ∀ {s : State} {x : Vector Pool 32}, P s → (∀ c : Chan, s.pools[c].fits → x[c].fits) →
    P { s with pools := x }
  channels : ∀ {s : State} {x : Vector ChannelRecord 32}, P s → (∀ c : Chan, s.channels[c].fits → x[c].fits) →
    P { s with channels := x }
  prover   : ∀ {s : State} {x : Prover}, P s → (s.prover.fits → x.fits) → P { s with prover := x }
  slots    : ∀ {s : State} {x : Vector SlotRecord 8}, P s →
    (∀ (sl : Slot) (q : Position), s.slots[sl].positions[q].fits → x[sl].positions[q].fits) → P { s with slots := x }

namespace KeptInWidths
variable {P : State → Prop} (k : KeptInWidths P) {s : State}
include k

/-! ## Writes to one record -/

theorem setOpenBank {b : Bank} (h : P s) (hb : s.openBank.within → b.within) : P (s.setOpenBank b) :=
  k.banks h fun ho hc => ⟨hb ho, hc⟩

theorem setClosingBank {b : Bank} (h : P s) (hb : s.closingBank.within → b.within) : P (s.setClosingBank b) :=
  k.banks h fun ho hc => ⟨ho, hb hc⟩

theorem setTotals {x : Totals} (h : P s) (hx : s.totals.within → x.within) : P (s.setTotals x) := k.totals h hx

theorem setPool {c : Chan} {q : Pool} (h : P s) (hq : s.pools[c].fits → q.fits) : P (s.setPool c q) := by
  refine k.pools h fun c' => ?_
  rw [get_set]
  split
  · next hc => exact hc ▸ hq
  · exact id

theorem setChannel {c : Chan} {r : ChannelRecord} (h : P s) (hr : s.channels[c].fits → r.fits) :
    P (s.setChannel c r) := by
  refine k.channels h fun c' => ?_
  rw [get_set]
  split
  · next hc => exact hc ▸ hr
  · exact id

theorem setSlot {sl : Slot} {r : SlotRecord}
    (h : P s) (hr : ∀ q : Position, s.slots[sl].positions[q].fits → r.positions[q].fits) : P (s.setSlot sl r) := by
  refine k.slots h fun sl' => ?_
  rw [get_set]
  split
  · next hs => exact hs ▸ hr
  · exact fun _ => id

theorem setPosition {c : Chan} {r : PositionRecord} (h : P s) (hr : (s.position c).fits → r.fits) :
    P (s.setPosition c r) := by
  refine k.setSlot h fun q => ?_
  rw [get_set]
  split
  · next hq => exact hq ▸ hr
  · exact id

theorem setProver {r : Prover} (h : P s) (hr : s.prover.fits → r.fits) : P (s.setProver r) := k.prover h hr

theorem setFurnace (f : Furnace) (r : FurnaceRecord) (h : P s) : P (s.setFurnace f r) :=
  k.same h ⟨rfl, rfl, rfl, rfl, rfl, rfl, rfl, rfl⟩

theorem setLine (l : Line) (r : LineRecord) (h : P s) : P (s.setLine l r) :=
  k.same h ⟨rfl, rfl, rfl, rfl, rfl, rfl, rfl, rfl⟩

theorem setInterval (r : IntervalRecord) (h : P s) : P (s.setInterval r) :=
  k.same h ⟨rfl, rfl, rfl, rfl, rfl, rfl, rfl, rfl⟩

theorem setConfig (g : Configuration) (h : P s) : P (s.setConfig g) := k.same h ⟨rfl, rfl, rfl, rfl, rfl, rfl, rfl, rfl⟩

theorem setLock (r : RegionNo) (x : LockRecord) (h : P s) : P (s.setLock r x) :=
  k.same h ⟨rfl, rfl, rfl, rfl, rfl, rfl, rfl, rfl⟩

theorem setPortLock (p : Port) (x : PortLock) (h : P s) : P (s.setPortLock p x) :=
  k.same h ⟨rfl, rfl, rfl, rfl, rfl, rfl, rfl, rfl⟩

theorem setPort (p : Port) (x : PortRecord) (h : P s) : P (s.setPort p x) :=
  k.same h ⟨rfl, rfl, rfl, rfl, rfl, rfl, rfl, rfl⟩

theorem setCursor (p : Port) (x : Cursor) (h : P s) : P (s.setCursor p x) :=
  k.same h ⟨rfl, rfl, rfl, rfl, rfl, rfl, rfl, rfl⟩

theorem setAlerts (p : Port) (a : AlertRecord) (h : P s) : P (s.setAlerts p a) :=
  k.same h ⟨rfl, rfl, rfl, rfl, rfl, rfl, rfl, rfl⟩

theorem raise (src : AlertSource) (obj : Option Nat) (h : P s) : P (raise src obj s) :=
  k.same h ⟨by simp, by simp, by simp, by simp, by simp, by simp, by simp, by simp⟩

omit k in
theorem forEach {α : Type} {xs : List α} {f : α → State → State} (h : P s) (hf : ∀ x {t : State}, P t → P (f x t)) :
    P (forEach xs f s) :=
  forEach_keeps P xs f (fun x _ _ => hf x) s h

/-! ## Attribution -/

theorem book (a : Account) (x : Nat) (h : P s) : P (s.book a x) := k.setOpenBank h fun hb => Bank.within_add hb a x

theorem placeIncrement (c : Chan) (e : Nat) (tag : Option Consumer) (h : P s) : P (placeIncrement c e tag s) := by
  have hb := k.book .metered e h
  unfold Machine.placeIncrement
  dsimp only
  split
  · exact k.setOpenBank hb (bookParts_within _ _ _)
  · unfold placeState
    dsimp only
    split <;> exact k.setOpenBank hb (bookParts_within _ _ _)
  · unfold placeTagged
    split
    · split
      · exact k.book _ e hb
      · exact k.raise _ _ (k.book _ e hb)
    · exact k.raise _ _ (k.book _ e hb)
  · unfold placePool
    dsimp only
    refine k.setOpenBank (k.setPool hb fun hq => ⟨satAdd_le .., hq.2⟩) fun hw a => ?_
    rw [Bank.get_mark]
    exact hw a

theorem settleOpenPool (c : Chan) (entries : List Entry) (h : P s) : P (settleOpenPool c entries s) :=
  k.setPool (k.setOpenBank h (settle_within _ _)) fun hq => ⟨Nat.zero_le _, hq.2⟩

theorem settleClosingPool (snap : Snapshot) (c : Chan) (h : P s) : P (settleClosingPool snap c s) := by
  unfold Machine.settleClosingPool
  dsimp only
  split
  · exact h
  · exact k.setPool (k.setClosingBank h (settle_within _ _)) fun hq => ⟨hq.1, Nat.zero_le _⟩

/-! ## The prover and the channels -/

theorem endRun (o : ProveOutcome) (d : Int) (h : P s) : P (endRun o d s) := by
  unfold Machine.endRun
  split
  · exact h
  · dsimp only
    exact k.raise _ _ (k.setProver (k.setChannel h id) id)

theorem abortRun (c : Chan) (h : P s) : P (abortRun c s) := by
  unfold Machine.abortRun
  split
  · exact h
  · split
    · exact k.endRun _ _ h
    · exact h

theorem handOn (c : Chan) (u : Nat) (tag : Option Consumer) (h : P s) : P (handOn c u tag s).1 := by
  unfold Machine.handOn
  split
  · exact h
  · dsimp only
    refine k.placeIncrement c _ tag (k.setChannel ?_ fun _ => Nat.mod_lt _ zero_lt_carryUnit)
    split
    · exact k.setProver h fun hp => ⟨satAdd_le .., hp.2⟩
    · exact h

theorem finishReading (c : Chan) (o : ReadingOutcome) (u : Nat) (base : Option Nat) (tag : Option Consumer) (h : P s) :
    P (finishReading c o u base tag s).after := by
  refine k.handOn c u tag ?_
  have ha : P (acceptReading c base s) := k.setChannel h id
  unfold raiseReading
  split
  · exact k.raise _ _ ha
  · exact k.raise _ _ ha
  · exact ha

theorem takeTotal (c : Chan) (v : Nat) (tag : Option Consumer) (h : P s) : P (takeTotal c v tag s).after := by
  unfold Machine.takeTotal
  split
  · exact k.setChannel h id
  · exact k.finishReading c _ _ _ tag h

theorem takeDelta (c : Chan) (delta : Nat) (base : Option Nat) (tag : Option Consumer) (h : P s) :
    P (takeDelta c delta base tag s).after := by
  unfold Machine.takeDelta
  dsimp only
  split <;> exact k.finishReading c _ _ base tag h

theorem samplePulse (c : Chan) (h : P s) : P (samplePulse c s) := by
  unfold Machine.samplePulse
  dsimp only
  split
  · exact k.takeDelta c _ _ none h
  · exact h

theorem sendChannel (c : Chan) (st : ChannelState) (h : P s) : P (sendChannel c st s) := by
  unfold Machine.sendChannel
  dsimp only
  split
  · exact k.setChannel h id
  · exact k.setChannel (k.abortRun c h) id

theorem enterStale (c : Chan) (h : P s) : P (enterStale c s) := k.raise _ _ (k.sendChannel c _ h)

theorem channelSlotLost (c : Chan) (h : P s) : P (channelSlotLost c s) := by
  have hs := k.sendChannel c (.offline .slotNotReady) h
  unfold Machine.channelSlotLost
  dsimp only
  split
  · split
    · exact k.raise _ _ hs
    · exact k.raise _ _ hs
    · exact k.raise _ _ hs
    · exact hs
    · exact h
  · exact h

theorem channelSlotReady (m : ModuleType) (c : Chan) (h : P s) : P (channelSlotReady m c s) := by
  unfold Machine.channelSlotReady
  dsimp only
  split
  · split
    · split <;> exact k.setChannel h id
    · exact k.raise _ _ (k.setChannel h id)
  · exact h

theorem abandonPoll (c : Chan) (h : P s) : P (abandonPoll c s) := by
  unfold Machine.abandonPoll
  dsimp only
  split
  · split
    · exact k.setSlot h fun _ => id
    · exact h
  · exact h

theorem renewPolling (c : Chan) (h : P s) : P (renewPolling c s) := by
  unfold Machine.renewPolling
  dsimp only
  split
  · exact k.setPosition h fun hr => ⟨hr.1, Nat.zero_le _⟩
  · exact k.setPosition h id

theorem activate (c : Chan) (h : P s) : P (activate c s) := by
  unfold Machine.activate
  dsimp only
  split
  · exact k.raise _ _ (k.renewPolling c (k.setChannel h id))
  · exact k.renewPolling c (k.setChannel h id)

theorem deactivate (c : Chan) (h : P s) : P (deactivate c s) :=
  k.renewPolling c (k.setChannel (k.abandonPoll c (k.sendChannel c _ h)) fun _ => zero_lt_carryUnit)

theorem adoptChannel (c : Chan) (old new : ChannelConfig) (h : P s) : P (adoptChannel c old new s) := by
  unfold Machine.adoptChannel
  split
  · exact h
  · exact k.activate c h
  · exact k.deactivate c h
  · split
    · exact k.activate c (k.abandonPoll c (k.abortRun c h))
    · split
      · exact k.enterStale c h
      · exact h

theorem restampChannels (t : Nat) (h : P s) : P (restampChannels t s) := by
  refine k.channels h fun c hr => ?_
  rw [get_ofFn]
  dsimp only
  split <;> exact hr

/-! ## Slots -/

theorem leaveReady (sl : Slot) (h : P s) : P (leaveReady sl s) := by
  refine forEach (k.setSlot h fun q hr => ?_) fun c _ ht => k.channelSlotLost c ht
  rw [get_ofFn]
  exact ⟨hr.1, Nat.zero_le _⟩

omit k in
theorem preparePositions_fits (m : ModuleType) (ps : Vector PositionRecord 4) (q : Position) (hr : ps[q].fits) :
    (preparePositions m ps)[q].fits := by
  rw [preparePositions, get_ofFn]
  split
  · exact ⟨hr.1, Nat.zero_le _⟩
  · exact ⟨Nat.succ_pos _, hr.2⟩

theorem enterReady (sl : Slot) (m : ModuleType) (h : P s) : P (enterReady sl m s) := by
  unfold Machine.enterReady
  dsimp only
  have hs := forEach (xs := channelsOf sl) (f := Machine.channelSlotReady m) (k.setSlot (sl := sl)
    (r := { s.slots[sl] with state := .ready m, settleDue := none, partialDue := none,
                             positions := preparePositions m s.slots[sl].positions })
    h (preparePositions_fits m _)) fun c _ ht => k.channelSlotReady m c ht
  split
  · exact forEach hs fun c _ ht => k.renewPolling c ht
  · exact hs

theorem enterRejected (sl : Slot) (why : RejectReason) (h : P s) : P (enterRejected sl why s) :=
  k.raise _ _ (k.setSlot h fun _ => id)

theorem endPoll (sl : Slot) (h : P s) : P (endPoll sl s) := k.setSlot h fun _ => id

theorem failPoll (c : Chan) (h : P s) : P (failPoll c s) := by
  unfold Machine.failPoll
  dsimp only
  split
  · exact k.enterStale c (k.setPosition h fun hr => ⟨hr.1, Nat.min_le_left ..⟩)
  · exact k.setPosition h fun hr => ⟨hr.1, Nat.min_le_left ..⟩

/-! ## Furnaces and lines -/

theorem drain (f : Furnace) (h : P s) : P (drain f s) := k.setFurnace f _ (k.book _ _ h)

theorem takeCharge (f : Furnace) (serial batch cullet : Nat) (h : P s) : P (takeCharge f serial batch cullet s) := by
  unfold Machine.takeCharge
  dsimp only
  split
  · exact k.raise _ _ (k.setFurnace f _ (k.book _ _ h))
  · exact k.setFurnace f _ (k.book _ _ h)

theorem draw (f : Furnace) (m : Nat) (h : P s) : P (draw f m s) := by
  unfold Machine.draw
  dsimp only
  split
  · exact k.raise _ _ (k.book _ _ (k.book _ _ (k.book _ _ (k.setFurnace f _ h))))
  · exact k.book _ _ (k.book _ _ (k.book _ _ (k.setFurnace f _ h)))

theorem bookTally (l : Line) (m : TallyMasses) (h : P s) : P (bookTally l m s) := by
  have hb := k.book (.line l .packed) m.packed (k.book (.line l .change) m.change (k.book (.line l .pulled) m.pulled h))
  unfold Machine.bookTally
  dsimp only
  split <;> split
  · exact k.raise _ _ (k.draw _ _ hb)
  · exact k.raise _ _ hb
  · exact k.draw _ _ hb
  · exact hb

/-! ## Intervals, results and locks -/

theorem beginClose (e start : Nat) (short : Bool) (h : P s) : P (beginClose e start short s) := by
  have hb : P { s with openBank := .zero, closingBank := s.openBank } :=
    k.banks h fun ho _ => ⟨Bank.within_zero, ho⟩
  have hw (c : Chan) (hq : s.pools[c].fits) : (swapPools s.pools)[c].fits := by
    rw [swapPools, get_ofFn]
    exact ⟨Nat.zero_le _, hq.1⟩
  exact k.same (k.pools hb hw) ⟨rfl, rfl, rfl, rfl, rfl, rfl, rfl, rfl⟩

theorem wrapPlantTime (h : P s) : P (wrapPlantTime s) := by
  unfold Machine.wrapPlantTime
  dsimp only
  refine k.restampChannels 0 (k.setInterval _ ?_)
  split
  · exact k.setInterval _ h
  · exact k.beginClose _ _ _ h

theorem writeRecord (r : IntervalResult) (h : P s) : P (writeRecord r s) := by
  unfold Machine.writeRecord
  exact k.same h ⟨rfl, rfl, rfl, rfl, rfl, rfl, rfl, rfl⟩

theorem beginWaiting (w : Waiting) (h : P s) : P (beginWaiting w s) := by
  cases w with
  | none => exact h
  | expiry => exact k.beginClose _ _ _ h
  | wrap => exact k.beginClose _ _ _ h

theorem endClose (c : Closing) (h : P s) : P (endClose c s) := by
  have hs : P (Machine.forEach (List.finRange 32) (Machine.settleClosingPool c.snapshot) s) :=
    forEach h fun x _ ht => k.settleClosingPool c.snapshot x ht
  unfold Machine.endClose
  dsimp only
  refine k.beginWaiting _ (k.setInterval _ (forEach (k.raise _ _ (k.setClosingBank
    (k.setTotals (k.writeRecord _ hs) ?_) ?_)) ?_))
  · exact fun _ => addTotals_within _ _ _
  · exact fun _ => Bank.within_zero
  · exact fun n _ ht => k.raise _ _ ht

theorem clearCounts (h : P s) : P (clearCounts s) := by
  have ht := k.setTotals (k.setOpenBank h fun _ => Bank.within_zero) fun _ =>
    zeroed_within s.interval.number s.interval.plantTime
  have hp := k.pools (x := Vector.ofFn fun c : Chan => { s.pools[c] with opened := 0 }) ht fun c hq => by
    rw [get_ofFn]
    exact ⟨Nat.zero_le _, hq.2⟩
  have hc := k.channels (x := Vector.ofFn fun c : Chan => { s.channels[c] with carry := 0 }) hp fun c _ => by
    rw [get_ofFn]
    exact zero_lt_carryUnit
  exact k.same hc ⟨rfl, rfl, rfl, rfl, rfl, rfl, rfl, rfl⟩

theorem grantNext (r : RegionNo) (h : P s) : P (grantNext r s) := by
  unfold Machine.grantNext
  split
  · exact k.setLock _ _ h
  · exact k.setAlerts _ _ (k.setPortLock _ _ (k.setLock _ _ h))

theorem endHold (r : RegionNo) (p : Port) (h : P s) : P (endHold r p s) := k.grantNext r (k.setPortLock _ _ h)

theorem endWait (r : RegionNo) (p : Port) (h : P s) : P (endWait r p s) := k.setPortLock _ _ (k.setLock _ _ h)

theorem dropLocks (p : Port) (h : P s) : P (dropLocks p s) := by
  unfold Machine.dropLocks
  dsimp only
  split <;> split
  · exact k.endWait _ p (k.endHold _ p h)
  · exact k.endWait _ p h
  · exact k.endHold _ p h
  · exact h

theorem expireIfSilent (r : RegionNo) (h : P s) : P (expireIfSilent r s) := by
  unfold Machine.expireIfSilent expireLock
  split
  · split
    · exact h
    · exact k.endHold r _ (k.setAlerts _ _ h)
  · exact h

theorem adoptFurnace (f : Furnace) (old new : FurnaceConfig) (h : P s) : P (adoptFurnace f old new s) := by
  unfold Machine.adoptFurnace
  split
  · exact k.setFurnace f _ h
  · exact k.setFurnace f _ (k.drain f h)
  · exact h

theorem reorderWaitLists (h : P s) : P (reorderWaitLists s) := by
  unfold Machine.reorderWaitLists
  exact k.same h ⟨rfl, rfl, rfl, rfl, rfl, rfl, rfl, rfl⟩

theorem settleBeforeAdoption (r : RegionNo) (old new : RegionValue) (h : P s) :
    P (settleBeforeAdoption r old new s) := by
  unfold Machine.settleBeforeAdoption
  split
  · split
    · exact k.settleOpenPool _ _ h
    · exact h
  · exact h

theorem adoptEffects (r : RegionNo) (old new : RegionValue) (h : P s) : P (adoptEffects r old new s) := by
  unfold Machine.adoptEffects
  split
  · exact k.adoptChannel _ _ _ h
  · exact k.adoptFurnace _ _ _ h
  · unfold adoptLine
    split
    · exact h
    · exact k.setLine _ _ h
  · dsimp only
    split
    · exact k.setInterval _ h
    · exact k.reorderWaitLists (k.setInterval _ h)
  · exact h

theorem adopt (r : RegionNo) (v : RegionValue) (h : P s) : P (adopt r v s) :=
  k.adoptEffects r _ v (k.setConfig _ (k.settleBeforeAdoption r _ v h))

theorem adoptWhole (g : Configuration) (h : P s) : P (adoptWhole g s) := by
  unfold Machine.adoptWhole
  dsimp only
  refine forEach (k.same h ⟨rfl, rfl, rfl, rfl, rfl, rfl, rfl, rfl⟩) fun c t ht => ?_
  split
  · exact k.activate c ht
  · exact ht

end KeptInWidths

end Sys2Proof.Machine
end

section
/-! PROOF. O56: the widths of sums, carries and counters, kept by the requests, the link and the events. -/

namespace Sys2Proof.Machine

/-! ## What the common checks of requests let through -/

/-- A furnace request that is not refused leaves its effect with the furnace in its new state. -/
theorem furnaceRequest_after {P : State → Prop} (furnace : Nat) (source target : FurnaceState)
    (bad : Option LineState → Bool) (effect : Furnace → State → State) {s : State} (h : P s)
    (taken : ∀ f : Furnace, P ((effect f s).setFurnace f { (effect f s).furnaces[f] with state := some target })) :
    P (furnaceRequest furnace source target bad effect s).after := by
  unfold furnaceRequest
  split
  · dsimp only
    split
    · split
      · exact h
      · split
        · split
          · exact h
          · exact taken _
        · exact h
    · exact h
  · exact h

/-- A line request that passes its first checks leaves what stands after them. -/
theorem lineRequest_after {P : State → Prop} (line : Nat) (fields : Bool) (taken : LineState → Bool)
    (op : Line → LineRecord → LineState → Taken) {s : State} (h : P s) (hop : ∀ l r st, P (op l r st).after) :
    P (lineRequest line fields taken s op).after := by
  unfold lineRequest
  split
  · dsimp only
    split
    · exact h
    · split
      · exact h
      · split
        · exact h
        · split
          · exact hop _ _ _
          · exact h
  · exact h

/-! ## Requests that read leave the state -/

theorem reqIntervalReadAt_after (n : Nat) (s : State) : (reqIntervalReadAt n s).after = s := by
  unfold reqIntervalReadAt
  split
  · rfl
  · split <;> rfl

theorem reqTotalsRead_after (consumer : Nat) (s : State) : (reqTotalsRead consumer s).after = s := by
  unfold reqTotalsRead
  split <;> rfl

theorem reqChannelRead_after (channel : Nat) (s : State) : (reqChannelRead channel s).after = s := by
  unfold reqChannelRead
  split <;> rfl

theorem reqSlotRead_after (slot : Nat) (s : State) : (reqSlotRead slot s).after = s := by
  unfold reqSlotRead
  split <;> rfl

theorem reqQueueRead_after (furnace start : Nat) (s : State) : (reqQueueRead furnace start s).after = s := by
  unfold reqQueueRead
  split
  · split <;> rfl
  · rfl

theorem reqStateRead_after (line : Nat) (s : State) : (reqStateRead line s).after = s := by
  unfold reqStateRead
  split
  · rfl
  · split <;> rfl

theorem reqLiveRead_after (scope : Nat) (s : State) : (reqLiveRead scope s).after = s := by
  unfold reqLiveRead
  split
  · rfl
  · split <;> rfl

/-! ## Requests -/

namespace KeptInWidths
variable {P : State → Prop} (k : KeptInWidths P) {s : State}
include k

theorem reqAlertRead (p : Port) (h : P s) : P (reqAlertRead p s).after := by
  unfold Machine.reqAlertRead
  dsimp only
  split
  · exact h
  · dsimp only [accept_after]
    split
    · exact h
    · exact k.setAlerts p _ h

theorem reqAlertClear (p : Port) (n : Nat) (h : P s) : P (reqAlertClear p n s).after := by
  unfold Machine.reqAlertClear
  split
  · exact k.setAlerts p _ h
  · exact h

theorem reqAlertMask (p : Port) (m : Nat) (h : P s) : P (reqAlertMask p m s).after := by
  unfold Machine.reqAlertMask
  split
  · exact k.setAlerts p _ h
  · exact h

theorem reqProveStart (p : Port) (channel duration : Nat) (h : P s) : P (reqProveStart p channel duration s).after := by
  unfold Machine.reqProveStart
  split
  · split
    · split
      · exact h
      · dsimp only
        split
        · exact k.setProver (k.setChannel h id) fun _ => ⟨Nat.zero_le _, Nat.zero_le _⟩
        · exact h
    · exact h
  · exact h

theorem reqProveStop (h : P s) : P (reqProveStop s).after := by
  unfold Machine.reqProveStop
  split
  · exact h
  · exact k.endRun _ _ h

theorem reqMeterPost (channel value : Nat) (tag : Option Nat) (h : P s) :
    P (reqMeterPost channel value tag s).after := by
  unfold Machine.reqMeterPost
  split
  · dsimp only
    iterate 5 split; exact h
    dsimp only [accept_after]
    split
    · exact k.takeTotal _ _ _ h
    · exact k.takeDelta _ _ _ _ h
  · exact h

theorem reqChannelRebase (channel : Nat) (h : P s) : P (reqChannelRebase channel s).after := by
  unfold Machine.reqChannelRebase
  split
  · dsimp only
    split
    · exact h
    · split
      · exact k.setChannel (k.sendChannel _ _ h) id
      · exact h
  · exact h

theorem reqSetSwitch (p : Port) (carrier set : Nat) (h : P s) : P (reqSetSwitch p carrier set s).after := by
  unfold Machine.reqSetSwitch
  split
  · exact h
  · split
    · exact h
    · dsimp only
      split
      · exact h
      · split
        · exact h
        · exact k.setConfig _ h

theorem reqChargePost (furnace serial batch cullet : Nat) (h : P s) :
    P (reqChargePost furnace serial batch cullet s).after := by
  unfold Machine.reqChargePost
  split
  · dsimp only
    iterate 5 split; exact h
    exact k.takeCharge _ _ _ _ h
  · exact h

theorem reqJobStart (line id gobMass gobsPerCut articleMass : Nat) (h : P s) :
    P (reqJobStart line id gobMass gobsPerCut articleMass s).after := by
  refine lineRequest_after line _ _ _ h fun l r st => ?_
  dsimp only
  split
  · exact h
  · split <;> exact k.setLine l _ h

theorem tallyCurrent (l : Line) (r : LineRecord) (st : LineState) (j : Job) (cuts packed : Nat) (h : P s) :
    P (tallyCurrent l r st j cuts packed s).after := by
  unfold Machine.tallyCurrent
  dsimp only
  split
  · exact k.raise _ _ (k.bookTally l _ (k.setLine l _ h))
  · exact k.bookTally l _ (k.setLine l _ h)

theorem reqTallyPost (line id cuts packed : Nat) (h : P s) : P (reqTallyPost line id cuts packed s).after := by
  refine lineRequest_after line _ _ _ h fun l r st => ?_
  split
  · exact h
  · split
    · exact k.tallyCurrent _ _ _ _ _ _ h
    · unfold tallyPrevious
      dsimp only [accept_after]
      exact k.bookTally l _ (k.setLine l _ h)
    · exact h

theorem reqLineResume (line : Nat) (h : P s) : P (reqLineResume line s).after := by
  refine lineRequest_after line _ _ _ h fun l r _ => ?_
  dsimp only
  split <;> split
  · exact h
  · split
    · exact k.setLine l _ h
    · exact k.setLine l _ h
    · exact h
  · exact h
  · split
    · exact k.setLine l _ h
    · exact k.setLine l _ h
    · exact h

theorem reqTimeSet (t : Nat) (h : P s) : P (reqTimeSet t s).after := by
  unfold Machine.reqTimeSet
  split
  · exact h
  · split
    · exact h
    · exact k.restampChannels t (k.setInterval _ (k.beginClose _ _ _ h))

theorem reqIntervalRead (p : Port) (h : P s) : P (reqIntervalRead p s).after := by
  unfold Machine.reqIntervalRead
  dsimp only
  split
  · exact k.setCursor p _ h
  · exact h

theorem reqCursorSet (p : Port) (place : Nat) (h : P s) : P (reqCursorSet p place s).after := by
  unfold Machine.reqCursorSet
  split
  · exact h
  · exact k.setCursor p _ h

theorem reqCampaignReset (consumer : Nat) (h : P s) : P (reqCampaignReset consumer s).after := by
  unfold Machine.reqCampaignReset
  split
  · exact h
  · exact k.setTotals h (resetAccount_within _ _)

theorem reqClearCounts (h : P s) : P (reqClearCounts s).after := by
  unfold Machine.reqClearCounts
  split
  · exact h
  · exact k.clearCounts h

/-! ### Requests of the lock table -/

theorem expireSilent (h : P s) : P (expireSilent s) :=
  forEach h fun r _ ht => k.expireIfSilent r ht

theorem reqRelease (p : Port) (action : Nat) (h : P s) : P (reqRelease p action s).after := by
  unfold Machine.reqRelease
  split
  · exact h
  · split
    · exact h
    · split
      · exact k.endHold _ p h
      · split
        · exact k.endHold _ p h
        · split
          · exact k.endHold _ p h
          · dsimp only [accept_after]
            unfold applyTimeout
            split
            · exact k.endHold _ p (k.adopt _ _ h)
            · exact k.expireSilent (k.endHold _ p (k.adopt _ _ h))

theorem reqLock (p : Port) (region mode : Nat) (h : P s) : P (reqLock p region mode s).after := by
  unfold Machine.reqLock
  split
  · split
    · exact h
    · dsimp only
      split
      · exact h
      · exact h
      · split
        · exact k.setPortLock _ _ (k.setLock _ _ h)
        · split
          · exact h
          · exact k.setPortLock _ _ (k.setLock _ _ h)
  · exact h

theorem reqLockCancel (p : Port) (h : P s) : P (reqLockCancel p s).after := by
  unfold Machine.reqLockCancel
  split
  · exact k.endWait _ p h
  · exact h

theorem touch (r : RegionNo) (x : Hold) (h : P s) : P (touch r x s) := k.setLock r _ h

theorem reqStageWrite (p : Port) (region field : Nat) (value : StageValue) (h : P s) :
    P (reqStageWrite p region field value s).after := by
  unfold Machine.reqStageWrite
  split
  · dsimp only
    split
    · exact h
    · split
      · exact h
      · split
        · exact h
        · split
          · exact k.touch _ _ h
          · exact k.touch _ _ h
  · exact h

theorem reqConfigRead (p : Port) (region which : Nat) (h : P s) : P (reqConfigRead p region which s).after := by
  unfold Machine.reqConfigRead
  split
  · split
    · exact h
    · dsimp only
      split
      · exact k.touch _ _ h
      · split <;> exact h
  · exact h

theorem reqProveApply (p : Port) (channel : Nat) (h : P s) : P (reqProveApply p channel s).after := by
  unfold Machine.reqProveApply
  split
  · dsimp only
    split
    · exact h
    · split
      · split
        · exact k.touch _ _ h
        · split <;> exact k.touch _ _ h
      · split <;> exact k.touch _ _ h
  · exact h

theorem reqSave (h : P s) : P (reqSave s).after := by
  unfold Machine.reqSave
  split
  · exact h
  · exact k.same h ⟨rfl, rfl, rfl, rfl, rfl, rfl, rfl, rfl⟩

/-- No request takes a sum, a carry or a counter out of its width. -/
theorem request (p : Port) (r : Request) (h : P s) : P (requestOp p r s).after := by
  cases r with
  | status => exact h
  | meterPost c v t => exact k.reqMeterPost c v t h
  | channelRead c => exact (reqChannelRead_after c s).symm ▸ h
  | channelRebase c => exact k.reqChannelRebase c h
  | setSwitch n x => exact k.reqSetSwitch p n x h
  | slotRead n => exact (reqSlotRead_after n s).symm ▸ h
  | liveRead n => exact (reqLiveRead_after n s).symm ▸ h
  | chargePost f n b x => exact k.reqChargePost f n b x h
  | furnaceHold f => exact furnaceRequest_after f _ _ _ _ h fun f => k.setFurnace f _ h
  | furnaceResume f => exact furnaceRequest_after f _ _ _ _ h fun f => k.setFurnace f _ h
  | furnaceShutdown f => exact furnaceRequest_after f _ _ _ _ h fun f => k.setFurnace f _ (k.drain f h)
  | furnaceWarm f => exact furnaceRequest_after f _ _ _ _ h fun f => k.setFurnace f _ h
  | queueRead f n => exact (reqQueueRead_after f n s).symm ▸ h
  | jobStart l j g n a => exact k.reqJobStart l j g n a h
  | jobReady l => exact lineRequest_after l _ _ _ h fun l _ _ => k.setLine l _ h
  | tallyPost l j c x => exact k.reqTallyPost l j c x h
  | lineHold l => exact lineRequest_after l _ _ _ h fun l _ _ => k.setLine l _ h
  | lineResume l => exact k.reqLineResume l h
  | lineShutdown l => exact lineRequest_after l _ _ _ h fun l _ _ => k.setLine l _ h
  | lineWarm l => exact lineRequest_after l _ _ _ h fun l _ _ => k.setLine l _ h
  | stateRead l => exact (reqStateRead_after l s).symm ▸ h
  | timeSet n => exact k.reqTimeSet n h
  | intervalRead => exact k.reqIntervalRead p h
  | intervalReadAt n => exact (reqIntervalReadAt_after n s).symm ▸ h
  | cursorSet n => exact k.reqCursorSet p n h
  | totalsRead n => exact (reqTotalsRead_after n s).symm ▸ h
  | campaignReset n => exact k.reqCampaignReset n h
  | clearCounts => exact k.reqClearCounts h
  | proveStart c d => exact k.reqProveStart p c d h
  | proveStop => exact k.reqProveStop h
  | proveApply c => exact k.reqProveApply p c h
  | lock r m => exact k.reqLock p r m h
  | lockCancel => exact k.reqLockCancel p h
  | stageWrite r n v => exact k.reqStageWrite p r n v h
  | configRead r w => exact k.reqConfigRead p r w h
  | release a => exact k.reqRelease p a h
  | alertRead => exact k.reqAlertRead p h
  | alertClear a => exact k.reqAlertClear p a h
  | alertMask a => exact k.reqAlertMask p a h
  | save => exact k.reqSave h

/-! ## Events -/

/-- The rows that look past the blocks of `SameSums`: a reset, the end of the image read, and an acknowledgement, which
can clear the mark of a failed load. -/
def setsMark : Instr → Bool
  | .hardwareReset | .configLoadDone _ | .saveWriteAcknowledged => true
  | _ => false

omit k in
theorem link (k : KeptInWidths P) : LinkKeeps P where
  port _ p _ _ h := k.setPort p _ h
  request p r _ h := k.request p r h
  drop p _ h := k.dropLocks p h

theorem passSecond (h : P s) : P (passSecond s) := k.same h ⟨rfl, rfl, rfl, rfl, rfl, rfl, rfl, rfl⟩

section
variable {t : State} (h : P s)
include h

theorem plantTimeTick (he : exec .plantTimeTick s = .next t) : P t := by
  obtain rfl := Host.Outcome.next.inj he
  split
  · dsimp only
    split
    · exact k.setInterval _ (k.passSecond h)
    · exact k.wrapPlantTime (k.passSecond h)
  · exact h

theorem plantTimeWrap (he : exec .plantTimeWrap s = .next t) : P t := by
  obtain rfl := Host.Outcome.next.inj he
  split
  · exact k.wrapPlantTime (k.passSecond h)
  · exact h

theorem intervalExpiry (he : exec .intervalExpiry s = .next t) : P t := by
  obtain rfl := Host.Outcome.next.inj he
  split
  · split
    · exact k.setInterval _ h
    · exact k.beginClose _ _ _ h
  · exact h

theorem presenceChange {sl : Slot} {a b : Bool} (he : exec (.presenceChange sl a b) s = .next t) : P t := by
  obtain rfl := Host.Outcome.next.inj he
  dsimp only
  split
  · exact h
  · split
    · exact k.leaveReady sl (k.setSlot h fun _ => id)
    · exact k.setSlot h fun _ => id

theorem codeLineChange {sl : Slot} {k1 k2 : Bool} (he : exec (.codeLineChange sl k1 k2) s = .next t) : P t := by
  obtain rfl := Host.Outcome.next.inj he
  dsimp only
  split
  · exact h
  · exact k.setSlot h fun _ => id

theorem settleTimerExpiry {sl : Slot} (he : exec (.settleTimerExpiry sl) s = .next t) : P t := by
  obtain rfl := Host.Outcome.next.inj he
  have hs : P (s.setSlot sl { s.slots[sl] with settleDue := none }) := k.setSlot h fun _ => id
  dsimp only
  split
  · split
    · exact k.enterReady sl _ hs
    · exact k.enterReady sl _ hs
    · exact k.enterReady sl _ hs
    · exact k.enterRejected sl _ hs
    · exact k.setSlot hs fun _ => id
    · split
      · exact k.enterRejected sl _ hs
      · exact hs
  · exact h

theorem partialTimerExpiry {sl : Slot} (he : exec (.partialTimerExpiry sl) s = .next t) : P t := by
  obtain rfl := Host.Outcome.next.inj he
  have hs : P (s.setSlot sl { s.slots[sl] with partialDue := none }) := k.setSlot h fun _ => id
  dsimp only
  split
  · split
    · exact k.enterRejected sl _ hs
    · exact hs
  · exact h

theorem pulseInput {sl : Slot} {q : Position} (he : exec (.pulseInput sl q) s = .next t) : P t := by
  obtain rfl := Host.Outcome.next.inj he
  dsimp only
  split
  · exact k.setPosition h fun hr => ⟨Nat.mod_lt _ (Nat.succ_pos _), hr.2⟩
  · exact h

theorem pulseSample (he : exec .pulseSample s = .next t) : P t := by
  obtain rfl := Host.Outcome.next.inj he
  refine forEach (k.same h ⟨rfl, rfl, rfl, rfl, rfl, rfl, rfl, rfl⟩) fun c u hu => ?_
  split
  · exact k.samplePulse c hu
  · exact hu

theorem pollStart {sl : Slot} (he : exec (.pollStart sl) s = .next t) : P t := by
  obtain rfl := Host.Outcome.next.inj he
  split
  · exact k.setSlot (k.setPosition h id) fun _ => id
  · exact h

theorem pollReply {poll : PollRef} {ok : Bool} {address value : Nat}
    (he : exec (.pollReply poll ok address value) s = .next t) : P t := by
  obtain rfl := Host.Outcome.next.inj he
  have hs := k.endPoll poll.slot h
  dsimp only
  split
  · exact h
  · split
    · split
      · exact k.takeTotal _ _ _ (k.setPosition hs fun hr => ⟨hr.1, Nat.zero_le _⟩)
      · exact k.failPoll _ hs
    · exact h

theorem replyLimitExpiry {sl : Slot} (he : exec (.replyLimitExpiry sl) s = .next t) : P t := by
  obtain rfl := Host.Outcome.next.inj he
  split
  · exact h
  · split
    · exact k.failPoll _ (k.endPoll sl h)
    · exact h

theorem referencePulse (he : exec .referencePulse s = .next t) : P t := by
  obtain rfl := Host.Outcome.next.inj he
  split
  · exact h
  · exact k.setProver h fun hp => ⟨hp.1, satAdd_le ..⟩

theorem proveExpiry (he : exec .proveExpiry s = .next t) : P t := by
  obtain rfl := Host.Outcome.next.inj he
  split
  · exact h
  · dsimp only
    split
    · exact k.endRun _ _ h
    · exact h

theorem holdTimerExpiry {l : Line} (he : exec (.holdTimerExpiry l) s = .next t) : P t := by
  obtain rfl := Host.Outcome.next.inj he
  dsimp only
  split
  · exact k.raise _ _ (k.raise _ _ (k.setLine l _ h))
  · exact h

theorem saveAccessTimeout (he : exec .saveAccessTimeout s = .next t) : P t := by
  obtain rfl := Host.Outcome.next.inj he
  split
  · exact h
  · split
    · exact k.raise _ _ (k.same h ⟨rfl, rfl, rfl, rfl, rfl, rfl, rfl, rfl⟩)
    · exact h

/-- Every event but the three of `setsMark` keeps the property. -/
theorem event {i : Instr} (he : exec i s = .next t) (hm : setsMark i = false) (hr : i.asRequest = none)
    (hl : onLink i = false) : P t := by
  cases i
  case plantTimeTick => exact k.plantTimeTick h he
  case intervalExpiry => exact k.intervalExpiry h he
  case plantTimeWrap => exact k.plantTimeWrap h he
  case closingPoolSettle c =>
    obtain rfl := Host.Outcome.next.inj he
    split
    · exact h
    · exact k.settleClosingPool _ c h
  case closeEnd =>
    obtain rfl := Host.Outcome.next.inj he
    split
    · exact h
    · exact k.endClose _ h
  case presenceChange => exact k.presenceChange h he
  case codeLineChange => exact k.codeLineChange h he
  case settleTimerExpiry => exact k.settleTimerExpiry h he
  case partialTimerExpiry => exact k.partialTimerExpiry h he
  case pulseInput => exact k.pulseInput h he
  case pulseSample => exact k.pulseSample h he
  case pollStart => exact k.pollStart h he
  case pollReply => exact k.pollReply h he
  case replyLimitExpiry => exact k.replyLimitExpiry h he
  case staleTimeExpiry c =>
    obtain rfl := Host.Outcome.next.inj he
    split
    · exact k.enterStale c h
    · exact h
  case referencePulse => exact k.referencePulse h he
  case proveExpiry => exact k.proveExpiry h he
  case holdTimerExpiry => exact k.holdTimerExpiry h he
  case lockExpiry r =>
    obtain rfl := Host.Outcome.next.inj he
    exact k.expireIfSilent r h
  case saveAccessTimeout => exact k.saveAccessTimeout h he
  all_goals revert hm hr hl; exact nofun

/-- Every command but the three of `setsMark` keeps the property. -/
theorem exec {i : Instr} (he : Machine.exec i s = .next t) (hm : setsMark i = false) : P t :=
  (link k).exec (k.event h he hm) h he

end

end KeptInWidths

/-! ## The widths themselves -/

/-- The invariant of the widths looks at nothing else. -/
theorem widths_kept : KeptInWidths WithinWidths where
  same h e := by
    unfold WithinWidths
    rw [e.openBank, e.closingBank, e.totals, e.pools, e.channels, e.prover, e.slots]
    exact h
  banks := by
    rintro s o c ⟨ho, hc, rest⟩ hb
    exact ⟨(hb ho hc).1, (hb ho hc).2, rest⟩
  totals := by
    rintro s x ⟨ho, hc, ht, rest⟩ hx
    exact ⟨ho, hc, hx ht, rest⟩
  pools := by
    rintro s x ⟨ho, hc, ht, hp, rest⟩ hx
    exact ⟨ho, hc, ht, fun c => hx c (hp c), rest⟩
  channels := by
    rintro s x ⟨ho, hc, ht, hp, hr, rest⟩ hx
    exact ⟨ho, hc, ht, hp, fun c => hx c (hr c), rest⟩
  prover := by
    rintro s x ⟨ho, hc, ht, hp, hr, hu, hf, hs⟩ hx
    exact ⟨ho, hc, ht, hp, hr, (hx ⟨hu, hf⟩).1, (hx ⟨hu, hf⟩).2, hs⟩
  slots := by
    rintro s x ⟨ho, hc, ht, hp, hr, hu, hf, hs⟩ hx
    exact ⟨ho, hc, ht, hp, hr, hu, hf, fun sl q => hx sl q (hs sl q)⟩

theorem widths_reset : WithinWidths State.reset := by
  refine ⟨Bank.within_zero, Bank.within_zero, zeroed_within 1 0, fun c => ?_, fun c => ?_, Nat.zero_le _, Nat.zero_le _,
    fun sl q => ?_⟩
  · simp [State.reset]
  · simp [State.reset, ChannelRecord.reset, carryUnit]
  · simp [State.reset, SlotRecord.reset]

/-- The part after a hardware reset: what stands outside it stays. -/
def resetOf (s : State) : State :=
  { State.reset with
    pending := s.pending,
    slots := Vector.ofFn fun sl : Slot => { SlotRecord.reset s.slots[sl].sense with polls := s.slots[sl].polls },
    image := s.image }

theorem exec_hardwareReset (s : State) : exec .hardwareReset s = .next (resetOf s) := rfl

theorem resetOf_slot (s : State) (sl : Slot) :
    (resetOf s).slots[sl] = { SlotRecord.reset s.slots[sl].sense with polls := s.slots[sl].polls } := get_ofFn ..

theorem resetOf_widths (s : State) : WithinWidths (resetOf s) := by
  obtain ⟨ho, hc, ht, hp, hr, hu, hf, -⟩ := widths_reset
  refine ⟨ho, hc, ht, hp, hr, hu, hf, fun sl q => ?_⟩
  rw [resetOf_slot]
  simp [SlotRecord.reset]

/-- What CONFIG_LOAD_DONE takes to RUNNING, by the image. -/
def loadedState (answered : Bool) (s : State) : State :=
  if s.image.good answered then adoptWhole s.image.body.configuration s
  else raise .configLoadFail none { s with loadFailed := true }

theorem loadedState_widths (answered : Bool) {s : State} (h : WithinWidths s) :
    WithinWidths (loadedState answered s) := by
  unfold loadedState
  split
  · exact widths_kept.adoptWhole _ h
  · have hm : WithinWidths { s with loadFailed := true } := h
    exact widths_kept.raise _ _ hm

theorem setsMark_widths {i : Instr} (hm : KeptInWidths.setsMark i = true) {s t : State} (h : WithinWidths s)
    (he : exec i s = .next t) : WithinWidths t := by
  cases i
  case hardwareReset =>
    obtain rfl := Host.Outcome.next.inj he
    exact resetOf_widths s
  case configLoadDone answered =>
    obtain rfl := Host.Outcome.next.inj he
    split
    · exact loadedState_widths answered h
    · exact h
  case saveWriteAcknowledged =>
    obtain rfl := Host.Outcome.next.inj he
    split
    · exact h
    · dsimp only
      split <;> exact h
  all_goals exact absurd hm Bool.false_ne_true

/-- Settles O56: every command keeps the widths, and neither the queue nor the own clock has one. -/
theorem stepKeepsTheWidths : Obligations.StepKeepsTheWidths := by
  intro s t h ht
  refine step_keeps (P := WithinWidths) (fun _ _ h => h) (fun _ _ h => h) (fun i s t h he => ?_) h ht
  cases hm : KeptInWidths.setsMark i with
  | true => exact setsMark_widths hm h he
  | false => exact widths_kept.exec h he hm

end Sys2Proof.Machine
end

section
/-! PROOF. O18 to O22: the readings of a channel, the conversion with its carry, and the rows of chapter 1. -/

namespace Sys2Proof.Machine

/-! ## The conversion (R16, R19) -/

/-- The state in which the prover has counted an increment of a channel, if a run is on it (R150). -/
def counted (c : Chan) (u : Nat) (s : State) : State :=
  if s.channels[c].underProve then addChannelUnits u s else s

theorem counted_channels (c : Chan) (u : Nat) (s : State) : (counted c u s).channels = s.channels := by
  unfold counted
  split <;> rfl

theorem counted_config (c : Chan) (u : Nat) (s : State) : (counted c u s).config = s.config := by
  unfold counted
  split <;> rfl

/-- What a conversion of an increment divides: its product and the old carry. -/
def converted (s : State) (c : Chan) (u : Nat) : Nat := product s.config c u + s.channels[c].carry

theorem handOn_zero (c : Chan) (tag : Option Consumer) (s : State) : handOn c 0 tag s = (s, 0) := rfl

/-- An increment above 0 is counted, converted and placed. -/
theorem handOn_pos {u : Nat} (h : 0 < u) (c : Chan) (tag : Option Consumer) (s : State) :
    handOn c u tag s =
      (placeIncrement c (converted s c u / carryUnit) tag
        ((counted c u s).setChannel c { s.channels[c] with carry := converted s c u % carryUnit }),
        converted s c u / carryUnit) := by
  unfold handOn
  rw [if_neg (Nat.ne_of_gt h)]
  have hc : (if s.channels[c].underProve = true then addChannelUnits u s else s) = counted c u s := rfl
  simp only [hc, counted_channels, counted_config]
  rfl

@[simp] theorem placeIncrement_channels (c : Chan) (e : Nat) (tag : Option Consumer) (s : State) :
    (placeIncrement c e tag s).channels = s.channels := by rw [placeIncrement_frame]

/-- Handing on changes nothing of the channels but the carry of the one whose increment it is. -/
theorem handOn_channel (c : Chan) (u : Nat) (tag : Option Consumer) (s : State) (c' : Chan) :
    ∃ carry, (handOn c u tag s).1.channels[c'] = { s.channels[c'] with carry := carry } ∧
      (c ≠ c' → carry = s.channels[c'].carry) := by
  rcases Nat.eq_zero_or_pos u with rfl | hu
  · exact ⟨_, rfl, fun _ => rfl⟩
  · rw [handOn_pos hu, placeIncrement_channels, State.setChannel_channels, counted_channels, get_set]
    split
    · next hc => subst hc; exact ⟨_, rfl, fun h => absurd rfl h⟩
    · exact ⟨_, rfl, fun _ => rfl⟩

theorem product_cast (g : Configuration) (c : Chan) (u : Nat)
    (hs : -10000 ≤ (g.carriers[g.channels[c].carrier.index]).trim g.channels[c].set) (ht : -10000 ≤ g.channels[c].trim) :
    (product g c u : Int) =
      u * (g.carriers[g.channels[c].carrier.index]).factor g.channels[c].set *
        (10000 + (g.carriers[g.channels[c].carrier.index]).trim g.channels[c].set) * (10000 + g.channels[c].trim) := by
  unfold product
  push_cast
  rw [Int.toNat_of_nonneg (by omega), Int.toNat_of_nonneg (by omega)]

/-- Settles O20: the quotient and the remainder of the conversion make up what was divided. -/
theorem conversionKeepsEveryCarry : Obligations.ConversionKeepsEveryCarry := by
  intro c u tag s g k hs _ ht _
  refine ⟨handOn_zero c tag s, fun hu => ⟨converted s c u / carryUnit, converted s c u % carryUnit, counted c u s, ?_,
    Nat.mod_lt _ (Nat.pow_pos (Nat.succ_pos 9)), fun hp => ?_, fun hp => ?_, handOn_pos hu c tag s⟩⟩
  · have hdiv : converted s c u / carryUnit * 10 ^ 11 + converted s c u % carryUnit = converted s c u :=
      Nat.div_add_mod' ..
    rw [← product_cast s.config c u (Int.le_trans (by decide) hs) (Int.le_trans (by decide) ht)]
    exact_mod_cast hdiv
  · simp [counted, hp, -Fin.getElem_fin]
  · simp only [counted, hp, if_true]
    rfl

/-! ## Readings (R11 to R15) -/

/-- The classing of R14 is the model's. -/
theorem classify_of_classedAs {modulus limit b v : Nat} {o : ReadingOutcome} {u b' : Nat}
    (h : ClassedAs modulus limit b v o u b') :
    classify modulus limit b v = (o, u) ∧ (if o = .backstep then b else v) = b' := by
  obtain ⟨d, hd, h⟩ := h
  have hf : forward modulus b v = d := by rw [forward, ← hd, Int.toNat_natCast]
  unfold classify
  rw [hf]
  rcases h with ⟨hl, rfl, rfl, rfl⟩ | ⟨hl, hm, rfl, rfl, rfl⟩ | ⟨hl, hm, rfl, rfl, rfl⟩
  · simp [hl]
  · simp [hm, Nat.not_le.mpr hl]
  · simp [Nat.not_le.mpr hl, Nat.not_le.mpr hm]

@[simp] theorem raiseReading_channels (c : Chan) (o : ReadingOutcome) (s : State) :
    (raiseReading c o s).channels = s.channels := by rw [raiseReading_frame]

/-- A channel whose reading was taken: LIVE, with the new base, at the present plant time. -/
theorem finishReading_channel (c : Chan) (o : ReadingOutcome) (u : Nat) (base : Option Nat) (tag : Option Consumer)
    (s : State) :
    ∃ carry, (finishReading c o u base tag s).after.channels[c] =
      { s.channels[c] with state := .live, base := base, lastReading := s.interval.plantTime, carry := carry } := by
  obtain ⟨carry, h, -⟩ := handOn_channel c u tag (raiseReading c o (acceptReading c base s)) c
  refine ⟨carry, h.trans ?_⟩
  rw [raiseReading_channels, acceptReading, State.setChannel_channels, get_set_self]

/-! ## METER_POST (R22) -/

/-- The value check of METER_POST. -/
def valueOut (g : ChannelConfig) (v : Nat) : Prop :=
  (g.kind = .total ∧ g.modulus ≤ v) ∨ (g.kind = .delta ∧ 2 ^ 40 - 1 < v)

theorem valueOut_total {g : ChannelConfig} (h : g.kind = .total) (v : Nat) : valueOut g v ↔ g.modulus ≤ v := by
  simp [valueOut, h]

theorem valueOut_delta {g : ChannelConfig} (h : g.kind = .delta) (v : Nat) : valueOut g v ↔ 2 ^ 40 - 1 < v := by
  simp [valueOut, h]

/-- The reading that a METER_POST which passes its checks takes. -/
def postReading (c : Chan) (v : Nat) (tag : Option Nat) (s : State) : Reading :=
  if s.config.channels[c].kind = .total then takeTotal c v (tag.bind consumerOf) s
  else takeDelta c v s.channels[c].base (tag.bind consumerOf) s

theorem not_slot {x : Source} (h : x = .port) : ¬ x = .slot := by simp [h]

section
variable {c : Chan} {v : Nat} {tag : Option Nat} {s : State}

theorem exec_meterPost (p : Port) (fr : Octet) (hr : s.phase = .running) (n : Nat) :
    exec (.meterPost p fr n v tag) s =
      .next (replied p fr (.meterPost n v tag) (reqMeterPost n v tag s).status (reqMeterPost n v tag s).payload
        (reqMeterPost n v tag s).after) :=
  congrArg Host.Outcome.next (serve_running p fr _ _ hr)

theorem reqMeterPost_badTag (h : tag.any (16 < ·) = true) : reqMeterPost c.val v tag s = refuse s .range := by
  rw [reqMeterPost, dif_pos c.isLt]
  exact if_pos h

theorem any_tag_iff : tag.any (16 < ·) = true ↔ ∃ n, tag = some n ∧ 16 < n := by cases tag <;> simp

theorem any_tag_false (h : ∀ n, tag = some n → n ≤ 16) : ¬ tag.any (16 < ·) = true := by
  rw [any_tag_iff]
  rintro ⟨n, hn, h16⟩
  exact absurd (h n hn) (Nat.not_le.mpr h16)

variable (ht : ∀ n, tag = some n → n ≤ 16)
include ht

theorem reqMeterPost_inactive (h : s.channels[c].state = .inactive) :
    reqMeterPost c.val v tag s = refuse s .notConfigured := by
  rw [reqMeterPost, dif_pos c.isLt]
  exact (if_neg (any_tag_false ht)).trans (if_pos h)

variable (hi : s.channels[c].state ≠ .inactive)
include hi

theorem reqMeterPost_slot (h : s.config.channels[c].source = .slot) :
    reqMeterPost c.val v tag s = refuse s .wrongSource := by
  rw [reqMeterPost, dif_pos c.isLt]
  exact (if_neg (any_tag_false ht)).trans ((if_neg hi).trans (if_pos h))

variable (hp : s.config.channels[c].source = .port)
include hp

theorem reqMeterPost_untagged (h : s.config.channels[c].mode = .tagged ∧ tag = none) :
    reqMeterPost c.val v tag s = refuse s .tagRequired := by
  rw [reqMeterPost, dif_pos c.isLt]
  exact (if_neg (any_tag_false ht)).trans ((if_neg hi).trans ((if_neg (not_slot hp)).trans (if_pos h)))

variable (hm : s.config.channels[c].mode = .tagged → tag ≠ none)
include hm

theorem reqMeterPost_valueOut (h : valueOut s.config.channels[c] v) :
    reqMeterPost c.val v tag s = refuse s .range := by
  rw [reqMeterPost, dif_pos c.isLt]
  exact (if_neg (any_tag_false ht)).trans ((if_neg hi).trans ((if_neg (not_slot hp)).trans
    ((if_neg fun x => hm x.1 x.2).trans (if_pos h))))

theorem reqMeterPost_taken (h : ¬ valueOut s.config.channels[c] v) :
    reqMeterPost c.val v tag s =
      accept (postReading c v tag s).after
        (octets 1 (postReading c v tag s).outcome.code ++ octets 6 (postReading c v tag s).increment ++
          octets 8 (postReading c v tag s).energy ++ octets 1 (postReading c v tag s).after.channels[c].state.code) := by
  rw [reqMeterPost, dif_pos c.isLt]
  exact (if_neg (any_tag_false ht)).trans ((if_neg hi).trans ((if_neg (not_slot hp)).trans
    ((if_neg fun x => hm x.1 x.2).trans (if_neg h))))

/-- A reading that is taken by `finishReading` answers its outcome, increment, energy and LIVE. -/
theorem exec_meterPost_finish (p : Port) (fr : Octet) (hr : s.phase = .running) (h : ¬ valueOut s.config.channels[c] v)
    {o : ReadingOutcome} {u : Nat} {base : Option Nat}
    (hk : postReading c v tag s = finishReading c o u base (tag.bind consumerOf) s) :
    exec (.meterPost p fr c.val v tag) s =
      .next (replied p fr (.meterPost c.val v tag) .ok
        (octets 1 o.code ++ octets 6 u ++
          octets 8 (handOn c u (tag.bind consumerOf) (raiseReading c o (acceptReading c base s))).2 ++ octets 1 3)
        (handOn c u (tag.bind consumerOf) (raiseReading c o (acceptReading c base s))).1) := by
  obtain ⟨carry, hl⟩ := finishReading_channel c o u base (tag.bind consumerOf) s
  rw [exec_meterPost p fr hr, reqMeterPost_taken ht hi hp hm h, hk, accept_status, accept_payload, accept_after, hl]
  rfl

end

/-- Settles O18: a post that passes the checks is `postReading`, which is `finishReading` but where a base is set. -/
theorem meterPostIsTaken : Obligations.MeterPostIsTaken := by
  intro p fr c v tag s g r now limit hr ht hi hp hm
  refine ⟨fun hk hv hb => ?_, fun hk hv b o u b' hb hclass => ?_, fun hk hv o u hou => ?_⟩
  · have hout : ¬ valueOut g v := (valueOut_total hk v).not.mpr (Nat.not_le.mpr hv)
    have hread : postReading c v tag s = ⟨acceptReading c (some v) s, .based, 0, 0⟩ := by
      rw [postReading, if_pos hk, takeTotal, hb]
    rw [exec_meterPost p fr hr, reqMeterPost_taken ht hi hp hm hout, hread, acceptReading]
    simp only [accept_status, accept_payload, accept_after, State.setChannel_channels, get_set_self]
    rfl
  · have hout : ¬ valueOut g v := (valueOut_total hk v).not.mpr (Nat.not_le.mpr hv)
    obtain ⟨hcl, hbase⟩ := classify_of_classedAs hclass
    refine exec_meterPost_finish ht hi hp hm p fr hr hout (base := some b') ?_
    have hcl' : classify s.config.channels[c].modulus (readingLimit s c) b v = (o, u) := hcl
    rw [postReading, if_pos hk, takeTotal, hb]
    simp only [hcl', hbase]
  · have hout : ¬ valueOut g v := (valueOut_delta hk v).not.mpr (Nat.not_lt.mpr hv)
    have hkt : ¬ s.config.channels[c].kind = .total := by rw [show s.config.channels[c].kind = .delta from hk]; simp
    refine exec_meterPost_finish ht hi hp hm p fr hr hout (base := s.channels[c].base) ?_
    rw [postReading, if_neg hkt, takeDelta]
    rcases hou with ⟨hl, rfl, rfl⟩ | ⟨hl, rfl, rfl⟩
    · exact if_neg (Nat.not_lt.mpr hl)
    · exact if_pos hl

/-- Settles O19: the checks of R22 in their order. -/
theorem meterPostRefusals : Obligations.MeterPostRefusals := by
  intro p fr v tag s hr
  have refused {n : Nat} {st : Status} (h : reqMeterPost n v tag s = refuse s st) :
      exec (.meterPost p fr n v tag) s = .next (replied p fr (.meterPost n v tag) st [] s) := by
    rw [exec_meterPost p fr hr, h]
    rfl
  refine ⟨fun n hn => refused (dif_neg (by omega)), fun c => ⟨fun h => refused (reqMeterPost_badTag (any_tag_iff.mpr h)),
    fun ht => ⟨fun h => refused (reqMeterPost_inactive ht h), fun hi => ⟨fun h => refused (reqMeterPost_slot ht hi h),
    fun hp => ⟨fun hm h => refused (reqMeterPost_untagged ht hi hp ⟨hm, h⟩), fun hm => ⟨fun hk h => ?_, fun hk h => ?_⟩⟩⟩⟩⟩⟩
  · exact refused (reqMeterPost_valueOut ht hi hp hm ((valueOut_total hk v).mpr h))
  · exact refused (reqMeterPost_valueOut ht hi hp hm ((valueOut_delta hk v).mpr h))

end Sys2Proof.Machine
end

section
/-! PROOF. O21 and O22: channels taken out of LIVE, and the sets of a carrier. -/

namespace Sys2Proof.Machine

/-! ## A channel leaves LIVE (R9, R17, R152) -/

/-- A channel sent to a state other than LIVE: the run on it is aborted, and its record is the released one in that
state. -/
theorem sendChannel_eq (c : Chan) {st : ChannelState} (h : st ≠ .live) (s : State) :
    sendChannel c st s = (abortRun c s).setChannel c { released s c with state := st } := by
  unfold sendChannel
  simp only [if_neg h, abortRun_channel]

/-- Two records of a channel written one after the other: the second stands. -/
theorem setChannel_setChannel (s : State) (c : Chan) (r r' : ChannelRecord) :
    (s.setChannel c r).setChannel c r' = s.setChannel c r' := by
  simp [State.setChannel]

theorem enterStale_eq (c : Chan) (s : State) :
    enterStale c s =
      raise .channelStale (some c.val) ((abortRun c s).setChannel c { released s c with state := .stale }) := by
  rw [enterStale, sendChannel_eq c (by simp)]

section
variable {c : Chan} {s : State}

theorem reqChannelRebase_inactive (h : s.channels[c].state = .inactive) :
    reqChannelRebase c.val s = refuse s .notConfigured := by
  rw [reqChannelRebase, dif_pos c.isLt]
  exact if_pos h

theorem reqChannelRebase_refused (hi : s.channels[c].state ≠ .inactive)
    (h : ¬ (s.config.channels[c].isTotal = true ∧ (s.channels[c].state = .live ∨ s.channels[c].state = .stale))) :
    reqChannelRebase c.val s = refuse s .wrongState (octets 1 s.channels[c].state.code) := by
  rw [reqChannelRebase, dif_pos c.isLt]
  exact (if_neg hi).trans (if_neg h)

theorem reqChannelRebase_taken (ht : s.config.channels[c].isTotal = true)
    (hs : s.channels[c].state = .live ∨ s.channels[c].state = .stale) :
    reqChannelRebase c.val s =
      accept ((abortRun c s).setChannel c
        { released s c with state := .basing, base := none, lastReading := s.interval.plantTime }) := by
  have hi : ¬ s.channels[c].state = .inactive := by rcases hs with h | h <;> rw [h] <;> exact nofun
  rw [reqChannelRebase, dif_pos c.isLt]
  refine ((if_neg hi).trans (if_pos ⟨ht, hs⟩)).trans ?_
  simp only [sendChannel_eq c (st := .basing) (by simp), setChannel_setChannel, State.setChannel_channels, get_set_self]

theorem exec_channelRebase (p : Port) (tag : Octet) (hr : s.phase = .running) {t : Taken}
    (h : reqChannelRebase c.val s = t) :
    exec (.channelRebase p tag c.val) s = .next (replied p tag (.channelRebase c.val) t.status t.payload t.after) := by
  subst h
  exact congrArg Host.Outcome.next (serve_running p tag _ _ hr)

theorem staleTimeOut_true (ha : s.config.channels[c].active = true) (hp : s.config.channels[c].source = .port)
    (hs : s.channels[c].state = .basing ∨ s.channels[c].state = .live)
    (ht : s.channels[c].lastReading + s.config.channels[c].staleTime ≤ s.interval.plantTime) :
    staleTimeOut s c = true := by
  simp only [staleTimeOut, ha, hp, Bool.and_eq_true, Bool.or_eq_true, beq_iff_eq, decide_eq_true_eq]
  exact ⟨⟨⟨trivial, trivial⟩, hs⟩, ht⟩

end

/-- Settles O21: both rows send the channel out of LIVE by `sendChannel`. -/
theorem rebaseAndStaleness : Obligations.RebaseAndStaleness := by
  intro c s g st
  refine ⟨fun p tag hr => ⟨fun hi => ?_, fun ht hs => ?_, fun hi h => ?_⟩, fun ha hp hs ht => ?_⟩
  · exact exec_channelRebase p tag hr (reqChannelRebase_inactive hi)
  · exact ⟨abortRun c s, abortRun_spec c s, exec_channelRebase p tag hr (reqChannelRebase_taken ht hs)⟩
  · refine exec_channelRebase p tag hr (reqChannelRebase_refused hi ?_)
    rintro ⟨ht, hs⟩
    rcases h with h | ⟨hl, hst⟩
    · exact absurd (ht.symm.trans h) (by simp)
    · exact hs.elim hl hst
  · refine ⟨abortRun c s, abortRun_spec c s, ?_⟩
    rw [← enterStale_eq]
    exact congrArg Host.Outcome.next (if_pos (staleTimeOut_true ha hp hs ht))

/-! ## SET_SWITCH (R21) -/

theorem carrierOf_code (k : Carrier) : carrierOf k.code = some k := by cases k <;> rfl

theorem setNameOf_code (x : SetName) : setNameOf x.code = x := by cases x <;> rfl

theorem carrierOf_none {n : Nat} (h : 3 < n) : carrierOf n = none := by
  match n, h with
  | n + 4, _ => rfl

/-- In a list that rises, what a search finds at a member before which it finds nothing. -/
theorem findSome?_of_first {α : Type} {n : Nat} (f : Fin n → Option α) (a : Fin n) {b : α} (hb : f a = some b) :
    ∀ l : List (Fin n), l.Pairwise (· < ·) → a ∈ l → (∀ x, x < a → f x = none) → l.findSome? f = some b
  | [], _, hm, _ => absurd hm List.not_mem_nil
  | x :: l, hl, hm, hf => by
    obtain ⟨hx, hl⟩ := List.pairwise_cons.mp hl
    rcases List.mem_cons.mp hm with rfl | hm
    · rw [List.findSome?_cons, hb]
    · rw [List.findSome?_cons, hf x (hx a hm)]
      exact findSome?_of_first f a hb l hl hm hf

section
variable {p : Port} {k : Carrier} {s : State}

/-- What `switchBlocker` looks at for one channel. -/
def blockedBy (p : Port) (k : Carrier) (s : State) (c : Chan) : Option (Chan × Port) :=
  if s.config.channels[c].carrier = k then
    match s.locks[channelRegion c].hold with
    | some h => if h.port = p then none else some (c, h.port)
    | none => none
  else none

theorem switchBlocker_eq : switchBlocker p k s = (List.finRange 32).findSome? (blockedBy p k s) := rfl

theorem blockedBy_none {c : Chan}
    (h : ∀ h : Hold, s.config.channels[c].carrier = k → s.locks[channelRegion c].hold = some h → h.port = p) :
    blockedBy p k s c = none := by
  unfold blockedBy
  split
  · next hk =>
    split
    · next x hx => exact if_pos (h x hk hx)
    · rfl
  · rfl

theorem blockedBy_some {c : Chan} {h : Hold} (hk : s.config.channels[c].carrier = k)
    (hh : s.locks[channelRegion c].hold = some h) (hp : h.port ≠ p) : blockedBy p k s c = some (c, h.port) := by
  rw [blockedBy, if_pos hk, hh]
  exact if_neg hp

theorem switched_frame (g : Configuration) (k : Carrier) (x : SetName) :
    { switched g k x with channels := g.channels } = g := by
  cases g
  rfl

theorem switched_channel (g : Configuration) (k : Carrier) (x : SetName) (c : Chan) :
    (switched g k x).channels[c] =
      if g.channels[c].active ∧ g.channels[c].carrier = k then { g.channels[c] with set := x } else g.channels[c] := by
  rw [switched, get_ofFn]
  dsimp only
  by_cases ha : g.channels[c].active ∧ g.channels[c].carrier = k
  · by_cases hx : g.channels[c].set = x
    · subst hx
      exact (if_neg (by simp [switchMoves])).trans (ite_self _).symm
    · simp [switchMoves, ha, hx, -Fin.getElem_fin]
  · rw [if_neg ha, if_neg]
    simp only [switchMoves, Bool.and_eq_true, beq_iff_eq]
    exact fun h => ha h.1

/-- A channel is moved where its set after the switch is another one. -/
theorem switchMoves_eq (g : Configuration) (k : Carrier) (x : SetName) (c : Chan) :
    switchMoves g.channels[c] k x = ((switched g k x).channels[c].set != g.channels[c].set) := by
  rw [switched_channel]
  unfold switchMoves
  split
  · next h => simp [h, bne_comm (a := x), -Fin.getElem_fin]
  · next h =>
    have hm : (g.channels[c].active && g.channels[c].carrier == k) = false := by
      rw [Bool.eq_false_iff]
      simpa only [ne_eq, Bool.and_eq_true, beq_iff_eq] using h
    rw [hm]
    simp

variable {x : SetName} {tag : Octet}

theorem exec_setSwitch (hr : s.phase = .running) {n m : Nat} {t : Taken} (h : reqSetSwitch p n m s = t) :
    exec (.setSwitch p tag n m) s = .next (replied p tag (.setSwitch n m) t.status t.payload t.after) := by
  subst h
  exact congrArg Host.Outcome.next (serve_running p tag _ _ hr)

theorem not_one_lt_code (x : SetName) : ¬ 1 < x.code := by cases x <;> decide

theorem reqSetSwitch_unset (h : (s.config.carriers[k.index]).factor x = 0) :
    reqSetSwitch p k.code x.code s = refuse s .rejected (octets 1 6) := by
  simp only [reqSetSwitch, carrierOf_code, if_neg (not_one_lt_code x), setNameOf_code, if_pos h]

theorem reqSetSwitch_locked (h : (s.config.carriers[k.index]).factor x ≠ 0) {b : Chan × Port}
    (hb : switchBlocker p k s = some b) :
    reqSetSwitch p k.code x.code s = refuse s .locked (octets 1 b.1.val ++ octets 1 b.2.val) := by
  simp only [reqSetSwitch, carrierOf_code, if_neg (not_one_lt_code x), setNameOf_code, if_neg h, hb]

theorem reqSetSwitch_free (h : (s.config.carriers[k.index]).factor x ≠ 0) (hb : switchBlocker p k s = none) :
    reqSetSwitch p k.code x.code s =
      accept (s.setConfig (switched s.config k x))
        (octets 1 ((List.finRange 32).countP fun c => switchMoves s.config.channels[c] k x)) := by
  simp only [reqSetSwitch, carrierOf_code, if_neg (not_one_lt_code x), setNameOf_code, if_neg h, hb]

theorem reqSetSwitch_range {n m : Nat} (h : 3 < n ∨ 1 < m) : reqSetSwitch p n m s = refuse s .range := by
  unfold reqSetSwitch
  split
  · rfl
  · next hk =>
    refine if_pos (h.resolve_left fun hn => ?_)
    rw [carrierOf_none hn] at hk
    exact absurd hk (by simp)

end

/-- Settles O22: the lowest blocked channel is found by `findSome?_of_first`. -/
theorem setSwitchMovesTheCarrier : Obligations.SetSwitchMovesTheCarrier := by
  intro p tag k x s hr
  refine ⟨fun n m h => exec_setSwitch hr (reqSetSwitch_range h), fun h0 => exec_setSwitch hr (reqSetSwitch_unset h0),
    fun h0 hfree => ?_, fun c h h0 hk hh hp hlow => ?_⟩
  · have hb : switchBlocker p k s = none :=
      switchBlocker_eq.trans (List.findSome?_eq_none_iff.mpr fun c _ => blockedBy_none fun h hk hh => hfree c h hk hh)
    refine ⟨switched s.config k x, switched_frame s.config k x, switched_channel s.config k x, ?_⟩
    simp only [← switchMoves_eq]
    exact exec_setSwitch hr (reqSetSwitch_free h0 hb)
  · have hb : switchBlocker p k s = some (c, h.port) :=
      switchBlocker_eq.trans
        (findSome?_of_first _ c (blockedBy_some hk hh hp) _ (List.pairwise_lt_finRange 32) (List.mem_finRange c)
          fun c' hc => blockedBy_none fun h' hk' hh' => hlow c' h' hc hk' hh')
    exact exec_setSwitch hr (reqSetSwitch_locked h0 hb)

end Sys2Proof.Machine
end

section
/-! PROOF. O39 and O40: plant time, the start of a close and the boundaries of intervals. -/

namespace Sys2Proof.Machine

/-! ## Closes and new plant times (R10, R112, R114) -/

theorem beginClose_pool (e start : Nat) (short : Bool) (s : State) (c : Chan) :
    (beginClose e start short s).pools[c] = { opened := 0, closing := s.pools[c].opened } := by
  have h : (beginClose e start short s).pools = swapPools s.pools := rfl
  rw [h, swapPools, get_ofFn]

/-- What `beginClose` does is the start step of R114. -/
theorem beginClose_closeBegun (e start : Nat) (short : Bool) (s : State) :
    CloseBegun s (beginClose e start short s) e start short :=
  ⟨by cases s; rfl, rfl, rfl, beginClose_pool e start short s, rfl⟩

theorem restampChannels_channel (t : Nat) (s : State) (c : Chan) :
    (restampChannels t s).channels[c] =
      if s.channels[c].state = .inactive then s.channels[c] else { s.channels[c] with lastReading := t } := by
  rw [restampChannels, get_ofFn]

/-- A new plant time with the restamping of R10. -/
theorem restamp_timeChanged (s : State) (time : Nat) (mark : Bool) :
    TimeChanged s
      (restampChannels time (s.setInterval { s.interval with plantTime := time, timeSet := mark })) time mark :=
  ⟨by cases s; rfl, rfl, restampChannels_channel time _⟩

/-! ## Seconds, wraps and expiries (R111, R116, R122) -/

section
variable {s : State}

theorem wrapPlantTime_idle (h : s.interval.closing = none) :
    wrapPlantTime s =
      restampChannels 0 ((beginWrap s).setInterval { (beginWrap s).interval with plantTime := 0 }) := by
  have hc : ¬ s.interval.closing.isSome = true := by simp [h]
  unfold wrapPlantTime
  simp only [if_neg hc]
  rfl

theorem wrapPlantTime_busy (h : s.interval.closing ≠ none) :
    wrapPlantTime s =
      restampChannels 0 ((setWaiting .wrap s).setInterval { (setWaiting .wrap s).interval with plantTime := 0 }) := by
  have hc : s.interval.closing.isSome = true := Option.isSome_iff_ne_none.mpr h
  unfold wrapPlantTime
  simp only [if_pos hc]
  rfl

/-- In RUNNING a tick below 2^32 - 1 is one more second of plant time. -/
theorem exec_tick_below (hr : s.phase = .running) (h : s.interval.plantTime < wordLimit) :
    exec .plantTimeTick s = .next (setPlantTime (s.interval.plantTime + 1) (passSecond s)) := by
  have hp : (passSecond s).interval.plantTime < wordLimit := h
  refine congrArg Host.Outcome.next ((if_pos hr).trans ?_)
  exact if_pos hp

/-- In RUNNING at 2^32 - 1 the tick and the wrap are the same event (log entry 20). -/
theorem exec_wrap (hr : s.phase = .running) (h : s.interval.plantTime = wordLimit) {i : Instr}
    (hi : i = .plantTimeTick ∨ i = .plantTimeWrap) : exec i s = .next (wrapPlantTime (passSecond s)) := by
  have hp : ¬ (passSecond s).interval.plantTime < wordLimit := Nat.not_lt.mpr (Nat.le_of_eq h.symm)
  rcases hi with rfl | rfl
  · refine congrArg Host.Outcome.next ((if_pos hr).trans ?_)
    exact if_neg hp
  · exact congrArg Host.Outcome.next (if_pos ⟨hr, h⟩)

theorem intervalExpired_eq {e : Nat} (h : s.interval.endTime = some e) :
    intervalExpired s.interval = decide (e ≤ s.interval.plantTime) := by
  rw [intervalExpired, h]

theorem beginExpiry_eq {e : Nat} (h : s.interval.endTime = some e) : beginExpiry s = beginClose e e false s := by
  rw [beginExpiry, h]
  rfl

end

/-- Settles O39: the wrap and the expiry are `beginClose` or a waiting close, and the wrap is a new plant time. -/
theorem plantTimeRunsExpiresAndWraps : Obligations.PlantTimeRunsExpiresAndWraps := by
  intro s tick
  refine ⟨fun hs => ?_, fun hr hlt => exec_tick_below hr hlt, fun hr hw i hi => ⟨fun hc => ?_, fun hc => ?_⟩,
    fun e he => ⟨fun hle hc => ?_, fun hle hc => ?_, fun hlt => ?_⟩⟩
  · exact congrArg Host.Outcome.next (if_neg (by simp [hs]))
  · refine ⟨beginWrap tick, _, beginClose_closeBegun wordLimit 0 true tick, restamp_timeChanged _ 0 _, ?_⟩
    rw [exec_wrap hr hw hi, wrapPlantTime_idle (s := passSecond s) hc]
    rfl
  · refine ⟨_, restamp_timeChanged _ 0 _, ?_⟩
    rw [exec_wrap hr hw hi, wrapPlantTime_busy (s := passSecond s) hc]
    rfl
  · refine ⟨beginExpiry s, beginExpiry_eq he ▸ beginClose_closeBegun e e false s, congrArg Host.Outcome.next ?_⟩
    rw [if_pos (by simpa [intervalExpired_eq he] using hle), if_neg (by simp [hc])]
  · refine congrArg Host.Outcome.next ?_
    rw [if_pos (by simpa [intervalExpired_eq he] using hle), if_pos (Option.isSome_iff_ne_none.mpr hc)]
    rfl
  · refine congrArg Host.Outcome.next (if_neg ?_)
    simpa [intervalExpired_eq he] using hlt

/-! ## TIME_SET (R112, R121) -/

/-- The first multiple of `S` after a start is the least one above it. -/
theorem next_multiple_least {S start m : Nat} (hS : 0 < S) (hm : m % S = 0) (h : start < m) :
    (start / S + 1) * S ≤ m := by
  obtain ⟨k, rfl⟩ := Nat.dvd_of_mod_eq_zero hm
  rw [Nat.mul_comm S k] at h ⊢
  exact Nat.mul_le_mul_right S ((Nat.div_lt_iff_lt_mul hS).mpr h)

/-- The boundary of R112 is the smallest multiple of the length above the start, where it is no later than 2^32 - 1. -/
theorem openEnd_iff {length : Nat} (start e : Nat) (h : 0 < length) :
    openEnd length start = some e ↔
      e % (length * 60) = 0 ∧ start < e ∧ e ≤ wordLimit ∧ ∀ m, m % (length * 60) = 0 → start < m → e ≤ m := by
  have hS : 0 < length * 60 := Nat.mul_pos h (by decide)
  have hn : start < (start / (length * 60) + 1) * (length * 60) := Nat.lt_mul_of_div_lt (Nat.lt_succ_self _) hS
  unfold openEnd
  constructor
  · intro ho
    dsimp only at ho
    split at ho
    · next hle =>
      obtain rfl := Option.some.inj ho
      exact ⟨Nat.mul_mod_left .., hn, hle, fun _ => next_multiple_least hS⟩
    · exact absurd ho (by simp)
  · rintro ⟨hm, hlt, hle, hmin⟩
    obtain rfl := Nat.le_antisymm (next_multiple_least hS hm hlt) (hmin _ (Nat.mul_mod_left ..) hn)
    exact if_pos hle

section
variable {p : Port} {tag : Octet} {n : Nat} {s : State}

theorem exec_timeSet (hr : s.phase = .running) {t : Taken} (h : reqTimeSet n s = t) :
    exec (.timeSet p tag n) s = .next (replied p tag (.timeSet n) t.status t.payload t.after) := by
  subst h
  exact congrArg Host.Outcome.next (serve_running p tag _ _ hr)

/-- What a TIME_SET that is taken leaves. -/
theorem reqTimeSet_taken (hn : n ≤ wordLimit) (hc : s.interval.closing = none) :
    reqTimeSet n s =
      accept
        (restampChannels n ((beginClose s.interval.plantTime n true s).setInterval
          { (beginClose s.interval.plantTime n true s).interval with plantTime := n, timeSet := true }))
        (octets 4 s.interval.number ++ octets 4 (s.interval.number + 1)) := by
  rw [reqTimeSet, if_neg (Nat.not_lt.mpr hn), if_neg (by simp [hc])]

theorem reqTimeSet_busy (hn : n ≤ wordLimit) (hc : s.interval.closing ≠ none) :
    reqTimeSet n s = refuse s .busy := by
  rw [reqTimeSet, if_neg (Nat.not_lt.mpr hn), if_pos (Option.isSome_iff_ne_none.mpr hc)]

end

/-- Settles O40: a close by `beginClose`, then the new plant time; and the boundary by `openEnd_iff`. -/
theorem timeSetClosesTheInterval : Obligations.TimeSetClosesTheInterval := by
  refine ⟨fun p tag n s hr => ⟨fun hn hc => ?_, fun hn hc => ?_, fun hn => ?_⟩,
    fun length start e h => openEnd_iff start e h⟩
  · exact ⟨_, _, beginClose_closeBegun s.interval.plantTime n true s, restamp_timeChanged _ n true,
      exec_timeSet hr (reqTimeSet_taken hn hc)⟩
  · exact exec_timeSet hr (reqTimeSet_busy hn hc)
  · exact exec_timeSet hr (if_pos hn)

end Sys2Proof.Machine
end

section
/-! PROOF. O10 and O38: the reset values, and the requests that read. -/

namespace Sys2Proof.Machine

/-! ## Reset (R187) -/

theorem Bank.zero_get (a : Account) : Bank.zero.get a = 0 := by
  cases a with
  | furnace f k => simp [Bank.get, Bank.zero, FurnaceSums.zero_get]
  | line l k => simp [Bank.get, Bank.zero, LineSums.zero_get]
  | common => rfl
  | metered => rfl

theorem get_replicate {α : Type} {n : Nat} (x : α) (i : Fin n) : (Vector.replicate n x)[i] = x := by simp

/-- Settles O10, block by block. -/
theorem hardwareResetValues : Obligations.HardwareResetValues := by
  intro s
  refine ⟨resetOf s, exec_hardwareReset s, rfl, rfl, rfl, rfl, rfl, get_replicate _, fun sl => ?_, get_replicate _,
    fun a => ⟨Bank.zero_get a, Bank.zero_get a⟩, rfl, rfl, get_replicate _, get_replicate _, rfl, rfl, get_replicate _,
    rfl, rfl, get_replicate _, fun p => ⟨get_replicate _ p, get_replicate _ p, ?_, fun k => ?_⟩, rfl, rfl⟩
  · rw [resetOf_slot]
    exact ⟨rfl, rfl, rfl, rfl, rfl, rfl, get_replicate _⟩
  · have ha : (resetOf s).alerts[p] = AlertRecord.reset := get_replicate _ p
    rw [ha]
    rfl
  · have ha : (resetOf s).alerts[p] = AlertRecord.reset := get_replicate _ p
    rw [ha]
    exact get_replicate _ k

/-! ## Reads (R23, R39, R59, R60, R82, R108, R109, R181) -/

/-- In RUNNING a request whose operation is a refusal is refused. -/
theorem serve_refuse {p : Port} {tag : Octet} {r : Request} {op : State → Taken} {s : State} {st : Status}
    {pl : List Octet} (hr : s.phase = .running) (h : op s = refuse s st pl) :
    serve p tag r op s = replied p tag r st pl s := by
  rw [serve_running p tag r op hr, h]
  rfl

/-- In RUNNING a request whose operation reports and changes nothing is answered with its report. -/
theorem serve_report {p : Port} {tag : Octet} {r : Request} {op : State → Taken} {s : State} {pl : List Octet}
    (hr : s.phase = .running) (h : op s = accept s pl) : serve p tag r op s = replied p tag r .ok pl s := by
  rw [serve_running p tag r op hr, h]
  rfl

theorem proverStatus_idle {s : State} (h : s.prover.state = .idle) : proverStatus s = [0, 0, 0, 0] := by
  rw [proverStatus, h]
  rfl

theorem proverStatus_running {s : State} {c : Chan} {port : Port} {due weight : Nat}
    (h : s.prover.state = .running c port due weight) :
    proverStatus s =
      [1] ++ ([1] ++ octets 1 c.val) ++ ([1] ++ octets 1 port.val) ++
        ([1] ++ octets 2 ((due - s.clock + 999) / 1000)) := by
  rw [proverStatus, h]
  rfl

theorem consumerOf_furnace (f : Furnace) : consumerOf f.val = some (.furnace f) := dif_pos f.isLt

theorem consumerOf_line (l : Line) : consumerOf (l.val + 4) = some (.line l) := by
  have h : ¬ l.val + 4 < 4 := by omega
  have h' : l.val + 4 - 4 < 12 := l.isLt
  rw [consumerOf, dif_neg h, dif_pos h']
  rfl

theorem consumerOf_none {n : Nat} (h : 16 < n) : consumerOf n = none := by
  rw [consumerOf, dif_neg (by omega), dif_neg (by omega), if_neg (by omega)]

/-- The six accumulators of LIVE_READ in their order are the furnace's seven, and a line's five. -/
theorem furnaceSums_octets (b : Bank) (f : Furnace) :
    ([FurnaceKey.producing, .standby, .melted, .pulled, .cullet, .unbacked, .drained].flatMap fun k =>
      octets 6 (b.get (.furnace f k))) =
      octets 6 b.furnaces[f].producing ++ octets 6 b.furnaces[f].standby ++ octets 6 b.furnaces[f].melted ++
        octets 6 b.furnaces[f].pulled ++ octets 6 b.furnaces[f].cullet ++ octets 6 b.furnaces[f].unbacked ++
        octets 6 b.furnaces[f].drained := by
  simp only [List.flatMap_cons, List.flatMap_nil, List.append_nil, List.append_assoc]
  rfl

theorem lineSums_octets (b : Bank) (l : Line) :
    ([LineKey.producing, .standby, .pulled, .packed, .change].flatMap fun k => octets 6 (b.get (.line l k))) =
      octets 6 b.lines[l].producing ++ octets 6 b.lines[l].standby ++ octets 6 b.lines[l].pulled ++
        octets 6 b.lines[l].packed ++ octets 6 b.lines[l].change := by
  simp only [List.flatMap_cons, List.flatMap_nil, List.append_nil, List.append_assoc]
  rfl

/-- Settles O38, request by request. -/
theorem readsReportAndChangeNothing : Obligations.ReadsReportAndChangeNothing := by
  refine ⟨fun p tag s => ?_, fun p tag s hr => ⟨fun c => ?_, fun sl => ?_, fun n hn => ?_, fun n hn => ?_⟩,
    fun p tag s hr => ⟨?_, ?_, fun f => ?_, fun l => ?_, fun n hn h255 => ?_, fun f start hs => ?_,
      fun n start h => ?_, fun l => ?_, ?_, fun n hn h255 => ?_⟩⟩
  · refine congrArg Host.Outcome.next ((serve_status p tag _ s).trans ?_)
    cases hst : s.prover.state with
    | idle =>
      simp only [reqStatus, proverStatus_idle hst, accept_status, accept_payload, accept_after, textOctets, yesNo,
        List.append_assoc]
      cases s.phase <;> rfl
    | running c port due weight =>
      simp only [reqStatus, proverStatus_running hst, accept_status, accept_payload, accept_after, textOctets, yesNo,
        List.append_assoc]
      cases s.phase <;> rfl
  · refine congrArg Host.Outcome.next (serve_report hr ((dif_pos c.isLt).trans ?_))
    simp only [ProveRecord.octets, failedPolls, List.append_assoc]
  · refine congrArg Host.Outcome.next (serve_report hr ((dif_pos sl.isLt).trans ?_))
    simp only [List.append_assoc]
    rfl
  · exact congrArg Host.Outcome.next (serve_refuse hr (dif_neg (by omega)))
  · exact congrArg Host.Outcome.next (serve_refuse hr (dif_neg (by omega)))
  · exact congrArg Host.Outcome.next (serve_report hr rfl)
  · exact congrArg Host.Outcome.next (serve_report hr rfl)
  · refine congrArg Host.Outcome.next (serve_report hr ?_)
    rw [reqLiveRead, if_neg (by omega), consumerOf_furnace, furnaceSums_octets]
    simp only [List.append_assoc]
    rfl
  · refine congrArg Host.Outcome.next (serve_report hr ?_)
    rw [reqLiveRead, if_neg (by omega), consumerOf_line, lineSums_octets]
    simp only [List.append_assoc]
    rfl
  · refine congrArg Host.Outcome.next (serve_refuse hr ?_)
    rw [reqLiveRead, if_neg h255, consumerOf_none hn]
  · exact congrArg Host.Outcome.next (serve_report hr ((dif_pos f.isLt).trans (if_pos hs)))
  · refine congrArg Host.Outcome.next (serve_refuse hr ?_)
    unfold reqQueueRead
    split
    · exact if_neg (by omega)
    · rfl
  · refine congrArg Host.Outcome.next (serve_report hr ?_)
    rw [reqStateRead, if_neg (by omega), dif_pos l.isLt]
  · refine congrArg Host.Outcome.next (serve_report hr ((if_pos rfl).trans ?_))
    simp only [stateEntry, List.append_nil, List.append_assoc]
    rfl
  · exact congrArg Host.Outcome.next (serve_refuse hr ((if_neg h255).trans (dif_neg (by omega))))

end Sys2Proof.Machine
end

section
/-! PROOF. O16: the objects in a source's condition, and the mark of a failed load. -/

namespace Sys2Proof.Machine

/-! ## The objects in a condition (R24, R31, R184) -/

/-- A channel of a number is in a state. -/
def ChannelIn (s : State) (n : Nat) (st : ChannelState) : Prop := ∃ c : Chan, c.val = n ∧ s.channels[c].state = st

/-- The condition of each source that has objects. -/
def ObjectIn (s : State) (k : Fin 19) (n : Nat) : Prop :=
  (k = 2 ∧ ∃ sl : Slot, sl.val = n ∧ ∃ why, s.slots[sl].state = .rejected why) ∨
  (k = 3 ∧ ChannelIn s n (.offline .mismatch)) ∨ (k = 4 ∧ ChannelIn s n .stale) ∨
  (k = 5 ∧ ChannelIn s n (.offline .slotNotReady))

/-- What `inCondition` looks at for the sources whose objects are channels. -/
theorem channelIn_iff (s : State) (n : Nat) (st : ChannelState) :
    (if h : n < 32 then s.channels[n].state == st else false) = true ↔ ChannelIn s n st := by
  constructor
  · intro hb
    split at hb
    · next h => exact ⟨⟨n, h⟩, rfl, eq_of_beq hb⟩
    · exact absurd hb Bool.false_ne_true
  · rintro ⟨c, rfl, hc⟩
    rw [dif_pos c.isLt]
    exact beq_iff_eq.mpr hc

/-- A source that has objects has them in its condition. -/
theorem inCondition_iff (s : State) {k : Fin 19} (hk : k ≠ 0) (n : Nat) :
    inCondition s k n = true ↔ ObjectIn s k n := by
  unfold inCondition ObjectIn
  dsimp only
  split
  · next h => exact absurd (Fin.ext h) hk
  · next h =>
    obtain rfl : k = 2 := Fin.ext h
    simp only [true_and, Fin.reduceEq, false_and, or_false]
    constructor
    · intro hb
      split at hb
      · next hn =>
        split at hb
        · next why hw => exact ⟨⟨n, hn⟩, rfl, why, hw⟩
        · exact absurd hb Bool.false_ne_true
      · exact absurd hb Bool.false_ne_true
    · rintro ⟨sl, rfl, why, hw⟩
      have hw' : s.slots[sl.val].state = .rejected why := hw
      rw [dif_pos sl.isLt, hw']
  · next h =>
    obtain rfl : k = 3 := Fin.ext h
    simp only [true_and, Fin.reduceEq, false_and, or_false, false_or]
    exact channelIn_iff s n (.offline .mismatch)
  · next h =>
    obtain rfl : k = 4 := Fin.ext h
    simp only [true_and, Fin.reduceEq, false_and, or_false, false_or]
    exact channelIn_iff s n .stale
  · next h =>
    obtain rfl : k = 5 := Fin.ext h
    simp only [true_and, Fin.reduceEq, false_and, false_or]
    exact channelIn_iff s n (.offline .slotNotReady)
  · next h2 h3 h4 h5 =>
    have hk2 : k ≠ 2 := fun e => h2 (congrArg Fin.val e)
    have hk3 : k ≠ 3 := fun e => h3 (congrArg Fin.val e)
    have hk4 : k ≠ 4 := fun e => h4 (congrArg Fin.val e)
    have hk5 : k ≠ 5 := fun e => h5 (congrArg Fin.val e)
    simp [hk2, hk3, hk4, hk5]

theorem ObjectIn.lt {s : State} {k : Fin 19} {n : Nat} (h : ObjectIn s k n) : n < 32 := by
  obtain ⟨-, sl, rfl, -⟩ | ⟨-, c, rfl, -⟩ | ⟨-, c, rfl, -⟩ | ⟨-, c, rfl, -⟩ := h
  · exact Nat.lt_trans sl.isLt (by decide)
  · exact c.isLt
  · exact c.isLt
  · exact c.isLt

/-- Only condition-kind sources with an object type have objects in their condition. -/
theorem ObjectIn.condition {s : State} {k : Fin 19} {n : Nat} (h : ObjectIn s k n) : isCondition k = true ∧ k ≠ 0 := by
  obtain ⟨rfl, -⟩ | ⟨rfl, -⟩ | ⟨rfl, -⟩ | ⟨rfl, -⟩ := h <;> decide

/-! ## What is latched again -/

theorem conditionObjects_zero (s : State) : conditionObjects s 0 = if s.loadFailed then some [] else none := rfl

theorem conditionObjects_of_ne (s : State) {k : Fin 19} (hk : k ≠ 0) :
    conditionObjects s k =
      if ((List.range 32).filter (inCondition s k)).isEmpty then none
      else some ((List.range 32).filter (inCondition s k)) :=
  if_neg fun h => hk (Fin.ext h)

theorem mem_conditionObjects (s : State) {k : Fin 19} (hk : k ≠ 0) (n : Nat) :
    n ∈ (conditionObjects s k).getD [] ↔ n < 32 ∧ inCondition s k n = true := by
  have h : (conditionObjects s k).getD [] = (List.range 32).filter (inCondition s k) := by
    rw [conditionObjects_of_ne s hk]
    split
    · next he => exact (List.isEmpty_iff.mp he).symm
    · rfl
  rw [h, List.mem_filter, List.mem_range]

theorem mem_conditionObjects_iff (s : State) {k : Fin 19} (hk : k ≠ 0) (n : Nat) :
    n ∈ (conditionObjects s k).getD [] ↔ ObjectIn s k n := by
  rw [mem_conditionObjects s hk, inCondition_iff s hk]
  exact ⟨And.right, fun h => ⟨h.lt, h⟩⟩

/-- Nothing is latched again where nothing is in the condition. -/
theorem conditionObjects_eq_none (s : State) (k : Fin 19) :
    conditionObjects s k = none ↔ ¬ ((k = 0 ∧ s.loadFailed = true) ∨ ∃ n, ObjectIn s k n) := by
  by_cases hk : k = 0
  · subst hk
    have hn : ¬ ∃ n, ObjectIn s 0 n := fun ⟨n, h⟩ => h.condition.2 rfl
    rw [conditionObjects_zero]
    split
    · next h => simp [h]
    · next h => simp [h, hn]
  · have hm : conditionObjects s k = none ↔ ∀ n, ¬ n ∈ (conditionObjects s k).getD [] := by
      rw [conditionObjects_of_ne s hk]
      split
      · simp
      · next he => simpa [List.eq_nil_iff_forall_not_mem] using he
    rw [hm]
    simp only [mem_conditionObjects_iff s hk, hk, false_and, false_or, not_exists]

theorem conditionObjects_some {s : State} {k : Fin 19} {set : List Nat} (h : conditionObjects s k = some set) :
    set.Pairwise (· < ·) ∧ ∀ n, n ∈ set ↔ ObjectIn s k n := by
  by_cases hk : k = 0
  · subst hk
    rw [conditionObjects_zero] at h
    split at h
    · obtain rfl := Option.some.inj h
      exact ⟨List.Pairwise.nil, fun n => ⟨fun hn => absurd hn List.not_mem_nil, fun hn => absurd rfl hn.condition.2⟩⟩
    · exact absurd h (by simp)
  · have hm := mem_conditionObjects_iff s hk
    rw [h] at hm
    refine ⟨?_, hm⟩
    rw [conditionObjects_of_ne s hk] at h
    split at h
    · exact absurd h (by simp)
    · obtain rfl := Option.some.inj h
      exact List.pairwise_lt_range.filter _

/-- Nothing is latched again of a source that is not pending, or of which nothing is in the condition: an event-kind
source has no condition. -/
theorem latchedAgain_eq_none (s : State) (k : Fin 19) (pending : Option (List Nat)) :
    (if pending ≠ none ∧ isCondition k = true then conditionObjects s k else none) = none ↔
      pending = none ∨ ¬ ((k = 0 ∧ s.loadFailed = true) ∨ ∃ n, ObjectIn s k n) := by
  by_cases hc : isCondition k = true
  · by_cases hp : pending = none
    · simp [hp]
    · rw [if_pos ⟨hp, hc⟩, conditionObjects_eq_none]
      simp [hp]
  · have hn : ¬ ((k = 0 ∧ s.loadFailed = true) ∨ ∃ n, ObjectIn s k n) := by
      rintro (⟨rfl, -⟩ | ⟨n, h⟩)
      · exact hc rfl
      · exact hc h.condition.1
    rw [if_neg fun h => hc h.2]
    exact iff_of_true rfl (.inr hn)

/-- What is latched again is in the condition. -/
theorem latchedAgain_some {s : State} {k : Fin 19} {pending : Option (List Nat)} {set : List Nat}
    (h : (if pending ≠ none ∧ isCondition k = true then conditionObjects s k else none) = some set) :
    set.Pairwise (· < ·) ∧ ∀ n, n ∈ set ↔ ObjectIn s k n := by
  split at h
  · exact conditionObjects_some h
  · exact absurd h (by simp)

/-! ## The mark of a failed load (R187, R188, R190) -/

theorem mark_kept (b : Bool) : KeptInWidths fun t => t.loadFailed = b where
  same h e := e.loadFailed.trans h
  banks h _ := h
  totals h _ := h
  pools h _ := h
  channels h _ := h
  prover h _ := h
  slots h _ := h

theorem adoptWhole_loadFailed (g : Configuration) (s : State) : (adoptWhole g s).loadFailed = s.loadFailed :=
  (mark_kept s.loadFailed).adoptWhole g rfl

/-- The mark after CONFIG_LOAD_DONE. -/
theorem configLoadDone_loadFailed {answered : Bool} {s t : State} (he : exec (.configLoadDone answered) s = .next t) :
    t.loadFailed = (s.loadFailed || (s.phase == .starting && !s.image.good answered)) := by
  obtain rfl := Host.Outcome.next.inj he
  split
  · next hp =>
    rw [hp]
    dsimp only
    split
    · next hg => simp [hg, adoptWhole_loadFailed]
    · next hg => simp [hg]
  · next hp => simp [hp]

/-- The mark after the acknowledgement of a save's write. -/
theorem saveWriteAcknowledged_loadFailed {s t : State} (he : exec .saveWriteAcknowledged s = .next t) :
    t.loadFailed = true ↔ s.loadFailed = true ∧ ¬ ∃ v, s.save = some v ∧ 59 ≤ v.written := by
  obtain rfl := Host.Outcome.next.inj he
  split
  · next hs => simp [hs]
  · next v hs =>
    dsimp only
    split
    · next hw =>
      have h59 : ¬ 59 ≤ v.written := by
        unfold saveWrites at hw
        omega
      simp [hs, h59]
    · next hw =>
      have h59 : 59 ≤ v.written := by
        unfold saveWrites at hw
        omega
      simp [hs, h59]

/-- When a command leaves the mark set. -/
theorem loadFailed_iff {c : Instr} {s t : State} (he : exec c s = .next t) :
    t.loadFailed = true ↔
      (s.phase = .starting ∧ ∃ answered, c = .configLoadDone answered ∧ s.image.good answered = false) ∨
        (s.loadFailed = true ∧ c ≠ .hardwareReset ∧
          ¬ (c = .saveWriteAcknowledged ∧ ∃ v, s.save = some v ∧ 59 ≤ v.written)) := by
  cases hm : KeptInWidths.setsMark c with
  | false =>
    rw [(mark_kept s.loadFailed).exec rfl he hm]
    have hr : c ≠ .hardwareReset := by rintro rfl; exact absurd hm (by decide)
    have hl : ∀ a, c ≠ .configLoadDone a := by rintro a rfl; exact absurd hm (by simp [KeptInWidths.setsMark])
    have ha : c ≠ .saveWriteAcknowledged := by rintro rfl; exact absurd hm (by decide)
    simp [hr, hl, ha]
  | true =>
    cases c
    case hardwareReset =>
      obtain rfl := Host.Outcome.next.inj he
      simp [State.reset]
    case configLoadDone answered =>
      rw [configLoadDone_loadFailed he]
      simp [or_comm]
    case saveWriteAcknowledged =>
      rw [saveWriteAcknowledged_loadFailed he]
      simp
    all_goals exact absurd hm Bool.false_ne_true

/-- In RUNNING an ALERT_CLEAR of a source that there is sets what of it is latched again. -/
theorem exec_alertClear (p : Port) (tag : Octet) {s : State} (hr : s.phase = .running) (k : Fin 19) :
    exec (.alertClear p tag k.val) s =
      .next (replied p tag (.alertClear k.val) .ok
        (listOf (octets 1)
          ((if (s.alerts[p].pending[k]).isSome && isCondition k then conditionObjects s k else none).getD []))
        (s.setAlerts p { s.alerts[p] with
          pending := s.alerts[p].pending.set k
            (if (s.alerts[p].pending[k]).isSome && isCondition k then conditionObjects s k else none) })) := by
  refine congrArg Host.Outcome.next ((serve_running p tag _ _ hr).trans ?_)
  have h : reqAlertClear p k.val s = accept _ _ := dif_pos k.isLt
  rw [h]
  rfl

/-- Settles O16: `exec_alertClear` with the lemmas on `conditionObjects`, and `loadFailed_iff` for the mark. -/
theorem alertClearAndMask : Obligations.AlertClearAndMask := by
  refine ⟨fun p tag s hr => ⟨fun k => ?_, fun n hn => ?_, fun m hm => ?_, fun m hm => ?_, fun k hc hk n => ?_⟩,
    fun c s t he => loadFailed_iff he⟩
  · intro held
    have hheld : (if (s.alerts[p].pending[k]).isSome && isCondition k then conditionObjects s k else none) = held := by
      simp only [held, Bool.and_eq_true, Option.isSome_iff_ne_none]
    refine ⟨?_, ?_, fun set hset => ?_⟩
    · rw [exec_alertClear p tag hr k, hheld]
      rfl
    · exact latchedAgain_eq_none s k _
    · exact latchedAgain_some hset
  · exact congrArg Host.Outcome.next (serve_refuse hr (dif_neg (by omega)))
  · refine congrArg Host.Outcome.next ((serve_running p tag _ _ hr).trans ?_)
    rw [reqAlertMask, if_pos hm]
    rfl
  · exact congrArg Host.Outcome.next (serve_refuse hr (if_neg (by omega)))
  · exact ⟨mem_conditionObjects s hk n, mem_conditionObjects_iff s hk n⟩

end Sys2Proof.Machine
end

section
/-! PROOF. O25: what holds after an event for each thing of a list, and the sampling of the pulse channels. -/

namespace Sys2Proof.Machine

/-! ## An event for each of a list of different things -/

/-- What holds of the things that are done, event after event, holds of all of them in the end. No event of a thing is
done twice. -/
theorem forEach_induct {α : Type} {f : α → State → State} (upTo : List α → State → Prop) {xs : List α}
    (hx : xs.Nodup) (step : ∀ done x t, x ∈ xs → x ∉ done → upTo done t → upTo (done ++ [x]) (f x t))
    {s : State} (h : upTo [] s) : upTo xs (forEach xs f s) := by
  suffices ∀ rest done t, xs = done ++ rest → upTo done t → upTo xs (forEach rest f t) from
    this xs [] s rfl h
  intro rest
  induction rest with
  | nil =>
    intro done t hd ht
    rw [hd, List.append_nil]
    exact ht
  | cons x rest ih =>
    intro done t hd ht
    have hx' : x ∉ done := fun hmem => (List.nodup_append.mp (hd ▸ hx)).2.2 x hmem x List.mem_cons_self rfl
    exact ih (done ++ [x]) (f x t) (by rw [hd, List.append_assoc]; rfl)
      (step done x t (hd ▸ List.mem_append_right done List.mem_cons_self) hx' ht)

/-! ## The pulse modules (R32, R33) -/

theorem counts_eq (st : SlotState) : st.counts = (st == .ready .pulse4 || st == .ready .pulse4f) := by
  cases st with
  | ready m => cases m <;> rfl
  | _ => rfl

theorem prescaler_eq (st : SlotState) : st.prescaler = if st = .ready .pulse4f then 16 else 1 := by
  cases st with
  | ready m => cases m <;> rfl
  | _ => rfl

@[simp] theorem slotOf_chanAt (sl : Slot) (q : Position) : slotOf (chanAt sl q) = sl := by
  apply Fin.ext
  simp only [slotOf, chanAt]
  omega

@[simp] theorem positionOf_chanAt (sl : Slot) (q : Position) : positionOf (chanAt sl q) = q := by
  apply Fin.ext
  simp only [positionOf, chanAt]
  omega

/-- Whether a sample takes a channel. -/
def sampledIn (s : State) (c : Chan) : Bool :=
  (s.slots[slotOf c].state == .ready .pulse4 || s.slots[slotOf c].state == .ready .pulse4f) &&
    s.config.channels[c].active && s.config.channels[c].source == .slot &&
    s.config.channels[c].expected == .pulse && s.channels[c].state == .live

/-- What a sample counts of a channel in a state `s`. -/
def sampleDelta (s : State) (c : Chan) : Nat :=
  (((s.position c).counter - (s.channels[c].base.getD (s.position c).counter : Nat) : Int) % 65536).toNat *
    s.config.channels[c].pulseWeight * (if s.slots[slotOf c].state = .ready .pulse4f then 16 else 1)

/-- The state after the sample of a channel, with what is sampled taken from `s`. -/
def sampleTaken (s t : State) (c : Chan) : State :=
  let live := t.setChannel c
    { s.channels[c] with state := .live, base := some (s.position c).counter, lastReading := s.interval.plantTime }
  if sampleDelta s c ≤ readingLimit s c then (handOn c (sampleDelta s c) none live).1
  else (handOn c (readingLimit s c) none (raise .readingClamped (some c.val) live)).1

/-- The event of PULSE_SAMPLE for one channel. -/
def sampleStep (c : Chan) (s : State) : State := if s.slots[slotOf c].state.counts then samplePulse c s else s

/-- A DELTA reading, by its limit. -/
theorem takeDelta_after (c : Chan) (delta : Nat) (base : Option Nat) (tag : Option Consumer) (s : State) :
    (takeDelta c delta base tag s).after =
      if delta ≤ readingLimit s c then (handOn c delta tag (acceptReading c base s)).1
      else (handOn c (readingLimit s c) tag (raise .readingClamped (some c.val) (acceptReading c base s))).1 := by
  unfold takeDelta
  dsimp only
  split
  · next h => rw [if_neg (Nat.not_le.mpr h)]; rfl
  · next h => rw [if_pos (Nat.not_lt.mp h)]; rfl

theorem samplePulse_eq {c : Chan} {s : State}
    (h : s.config.channels[c].active = true ∧ s.config.channels[c].isPulse = true ∧ s.channels[c].state = .live) :
    samplePulse c s = sampleTaken s s c := by
  have ht : samplePulse c s = (takeDelta c (sampleDelta s c) (some (s.position c).counter) none s).after := by
    unfold samplePulse sampleDelta
    rw [← prescaler_eq]
    exact if_pos h
  rw [ht, takeDelta_after]
  rfl

theorem sampleStep_eq (c : Chan) (s : State) :
    sampleStep c s = if sampledIn s c = true then sampleTaken s s c else s := by
  unfold sampleStep
  rw [counts_eq]
  by_cases h : sampledIn s c = true
  · rw [if_pos h]
    simp only [sampledIn, Bool.and_eq_true] at h
    obtain ⟨⟨⟨⟨hc, ha⟩, hs⟩, hp⟩, hl⟩ := h
    rw [if_pos hc, samplePulse_eq ⟨ha, Bool.and_eq_true_iff.mpr ⟨hs, hp⟩, eq_of_beq hl⟩]
  · rw [if_neg h]
    split
    · next hc =>
      refine if_neg fun ⟨ha, hp, hl⟩ => h ?_
      obtain ⟨hs, hp⟩ := Bool.and_eq_true_iff.mp hp
      simp only [sampledIn, Bool.and_eq_true]
      exact ⟨⟨⟨⟨hc, ha⟩, hs⟩, hp⟩, beq_iff_eq.mpr hl⟩
    · rfl

/-- What is sampled of a channel depends on its own record, the slots, the configuration and the plant time alone. -/
structure SameSample (s t : State) (c : Chan) : Prop where
  slots : t.slots = s.slots
  config : t.config = s.config
  interval : t.interval = s.interval
  channel : t.channels[c] = s.channels[c]

section
variable {s t : State} {c : Chan} (h : SameSample s t c)
include h

theorem SameSample.sampledIn_eq : sampledIn t c = sampledIn s c := by
  unfold sampledIn
  rw [h.slots, h.config, h.channel]

theorem SameSample.sampleTaken_eq : sampleTaken t t c = sampleTaken s t c := by
  unfold sampleTaken sampleDelta readingLimit State.position
  rw [h.slots, h.config, h.interval, h.channel]

end

/-- The sample of a channel changes no slot, configuration, furnace, line or interval. -/
theorem sampleTaken_kept (s t : State) (c : Chan) :
    (sampleTaken s t c).slots = t.slots ∧ (sampleTaken s t c).config = t.config ∧
      (sampleTaken s t c).furnaces = t.furnaces ∧ (sampleTaken s t c).lines = t.lines ∧
      (sampleTaken s t c).interval = t.interval := by
  unfold sampleTaken
  dsimp only
  split
  · rw [handOn_frame]
    exact ⟨rfl, rfl, rfl, rfl, rfl⟩
  · rw [handOn_frame]
    simp

/-- Of the channels, the sample of one changes that one alone, which is LIVE with the counter as its base. -/
theorem sampleTaken_channel (s t : State) (c c' : Chan) :
    (c = c' → (sampleTaken s t c).channels[c'].state = .live ∧
      (sampleTaken s t c).channels[c'].base = some (s.position c).counter ∧
      (sampleTaken s t c).channels[c'].lastReading = s.interval.plantTime) ∧
    (c ≠ c' → (sampleTaken s t c).channels[c'] = t.channels[c']) := by
  have hand : ∀ u t', t'.channels = (t.channels.set c { s.channels[c] with
      state := .live, base := some (s.position c).counter, lastReading := s.interval.plantTime }) →
      (c = c' → (handOn c u none t').1.channels[c'].state = .live ∧
        (handOn c u none t').1.channels[c'].base = some (s.position c).counter ∧
        (handOn c u none t').1.channels[c'].lastReading = s.interval.plantTime) ∧
      (c ≠ c' → (handOn c u none t').1.channels[c'] = t.channels[c']) := by
    intro u t' ht
    obtain ⟨carry, he, hne⟩ := handOn_channel c u none t' c'
    rw [he, ht, get_set]
    refine ⟨fun h => ?_, fun h => ?_⟩
    · rw [if_pos h]
      exact ⟨rfl, rfl, rfl⟩
    · rw [hne h, ht, get_set, if_neg h]
  unfold sampleTaken
  dsimp only
  split
  · exact hand _ _ rfl
  · exact hand _ _ (raise_channels ..)

/-- What holds after the sampling of some of the channels: the others stand as they did. -/
structure Sampled (s begun : State) (done : List Chan) (t : State) : Prop where
  made : t = done.foldl (fun t c => if sampledIn s c then sampleTaken s t c else t) begun
  slots : t.slots = s.slots
  config : t.config = s.config
  furnaces : t.furnaces = s.furnaces
  lines : t.lines = s.lines
  interval : t.interval = s.interval
  ahead : ∀ c, c ∉ done → t.channels[c] = s.channels[c]
  taken : ∀ c ∈ done, sampledIn s c = true →
    t.channels[c].state = .live ∧ t.channels[c].base = some (s.position c).counter ∧
      t.channels[c].lastReading = s.interval.plantTime
  passed : ∀ c ∈ done, sampledIn s c = false → t.channels[c] = s.channels[c]

theorem Sampled.step {s begun t : State} {done : List Chan} {c : Chan} (hc : c ∉ done) (h : Sampled s begun done t) :
    Sampled s begun (done ++ [c]) (sampleStep c t) := by
  have same : SameSample s t c := ⟨h.slots, h.config, h.interval, h.ahead c hc⟩
  have hstep : sampleStep c t = if sampledIn s c = true then sampleTaken s t c else t := by
    rw [sampleStep_eq, same.sampledIn_eq, same.sampleTaken_eq]
  have hmade : sampleStep c t =
      (done ++ [c]).foldl (fun t c => if sampledIn s c then sampleTaken s t c else t) begun := by
    rw [List.foldl_append, ← h.made, hstep]
    rfl
  rw [hstep] at hmade ⊢
  split
  · next hs =>
    rw [if_pos hs] at hmade
    obtain ⟨hsl, hcf, hf, hl, hi⟩ := sampleTaken_kept s t c
    have own := (sampleTaken_channel s t c c).1 rfl
    have other := fun c' (hne : c ≠ c') => (sampleTaken_channel s t c c').2 hne
    refine ⟨hmade, hsl.trans h.slots, hcf.trans h.config, hf.trans h.furnaces, hl.trans h.lines, hi.trans h.interval,
      fun c' hn => ?_, fun c' hm ht => ?_, fun c' hm ht => ?_⟩
    · simp only [List.mem_append, List.mem_singleton, not_or] at hn
      rw [other c' (Ne.symm hn.2)]
      exact h.ahead c' hn.1
    · by_cases he : c = c'
      · subst he; exact own
      · have hd : c' ∈ done := by simpa [Ne.symm he] using hm
        rw [other c' he]
        exact h.taken c' hd ht
    · have he : c ≠ c' := by rintro rfl; exact absurd hs (by simp [ht])
      have hd : c' ∈ done := by simpa [Ne.symm he] using hm
      rw [other c' he]
      exact h.passed c' hd ht
  · next hs =>
    rw [if_neg hs] at hmade
    refine ⟨hmade, h.slots, h.config, h.furnaces, h.lines, h.interval, fun c' hn => ?_, fun c' hm ht => ?_,
      fun c' hm ht => ?_⟩
    · exact h.ahead c' fun hd => hn (List.mem_append_left _ hd)
    · have he : c ≠ c' := by rintro rfl; exact hs ht
      exact h.taken c' (by simpa [Ne.symm he] using hm) ht
    · by_cases he : c = c'
      · subst he; exact h.ahead c hc
      · exact h.passed c' (by simpa [Ne.symm he] using hm) ht

/-- The whole sample. -/
theorem exec_pulseSample (s : State) :
    exec .pulseSample s =
      .next (forEach (List.finRange 32) sampleStep
        { s with clock := max s.clock s.sampleDue, sampleDue := s.sampleDue + 1000 }) := rfl

theorem sampled_all (s : State) :
    Sampled s { s with clock := max s.clock s.sampleDue, sampleDue := s.sampleDue + 1000 } (List.finRange 32)
      (forEach (List.finRange 32) sampleStep
        { s with clock := max s.clock s.sampleDue, sampleDue := s.sampleDue + 1000 }) :=
  forEach_induct (Sampled s _) (List.nodup_finRange 32) (fun _ _ _ _ hn h => h.step hn)
    ⟨rfl, rfl, rfl, rfl, rfl, rfl, fun _ _ => rfl, fun _ h => absurd h List.not_mem_nil,
      fun _ h => absurd h List.not_mem_nil⟩

/-- One pulse: its counter goes on while the module counts. -/
theorem exec_pulseInput (sl : Slot) (q : Position) (s : State) :
    exec (.pulseInput sl q) s =
      .next (if s.slots[sl].state.counts then
        s.setSlot sl { s.slots[sl] with
          positions := s.slots[sl].positions.set q
            { s.slots[sl].positions[q] with counter := (s.slots[sl].positions[q].counter + 1) % 65536 } }
      else s) := by
  refine congrArg Host.Outcome.next ?_
  simp only [State.setPosition, State.position, slotOf_chanAt, positionOf_chanAt]

/-- Settles O25: the pulses by `exec_pulseInput`, the sample by what holds after each channel (`Sampled`). -/
theorem pulsesAreCountedAndSampled : Obligations.PulsesAreCountedAndSampled := by
  refine ⟨fun sl q s => ⟨fun h => ?_, fun h4 h4f => ?_⟩, fun s => ?_⟩
  · rw [exec_pulseInput, if_pos]
    rw [counts_eq]
    simpa using h
  · rw [exec_pulseInput, if_neg]
    rw [counts_eq]
    simp [h4, h4f, -Fin.getElem_fin]
  · have all := sampled_all s
    refine ⟨(exec_pulseSample s).trans (congrArg Host.Outcome.next all.made), _, exec_pulseSample s, all.slots,
      all.config, all.furnaces, all.lines, all.interval, fun c => ?_⟩
    exact ⟨all.taken c (List.mem_finRange c), all.passed c (List.mem_finRange c)⟩

end Sys2Proof.Machine
end

section
/-! PROOF. O23: the channels of a slot that leaves READY. -/

namespace Sys2Proof.Machine

/-! ## What is raised -/

/-- What is raised is seen on the alerts and the ports alone. -/
theorem RaisedJust.of_same {raised : AlertSource → Option Nat → Prop} {s s' t t' : State} (h : RaisedJust raised s t)
    (hs : s'.alerts = s.alerts ∧ s'.ports = s.ports) (ht : t'.alerts = t.alerts ∧ t'.ports = t.ports) :
    RaisedJust raised s' t' := by
  unfold RaisedJust
  rw [hs.1, hs.2, ht.1, ht.2]
  exact h

theorem RaisedJust.congr {a b : AlertSource → Option Nat → Prop} {s t : State} (h : RaisedJust a s t)
    (hab : ∀ src obj, a src obj ↔ b src obj) : RaisedJust b s t := by
  have : a = b := funext fun src => funext fun obj => propext (hab src obj)
  exact this ▸ h

/-! ## The abort of a run on a channel (R152, R154) -/

section
variable (c : Chan) (s : State)

theorem abortRun_prover :
    (proverOn s c = true → (abortRun c s).prover = { s.prover with state := .idle }) ∧
    (proverOn s c = false → (abortRun c s).prover = s.prover) := by
  obtain ⟨h0, h1⟩ := abortRun_spec c s
  refine ⟨fun h => ?_, fun h => by rw [h0 h]⟩
  rw [h1 h, raise_prover, State.setProver_prover]

theorem abortRun_other {c' : Chan} (hc : c ≠ c') : (abortRun c s).channels[c'] = s.channels[c'] := by
  obtain ⟨h0, h1⟩ := abortRun_spec c s
  cases h : proverOn s c with
  | false => rw [h0 h]
  | true => rw [h1 h, raise_channels, State.setProver_channels, State.setChannel_channels, get_set_ne _ _ _ _ hc]

theorem abortRun_raised :
    RaisedJust (fun src obj => src = .proveDone ∧ obj = some c.val ∧ proverOn s c = true) s (abortRun c s) := by
  obtain ⟨h0, h1⟩ := abortRun_spec c s
  cases h : proverOn s c with
  | false =>
    rw [h0 h]
    exact raisedJust_none rfl rfl fun _ _ hr => absurd hr.2.2 Bool.false_ne_true
  | true =>
    rw [h1 h]
    exact ((raise_raisedJust .proveDone (some c.val) _).of_same ⟨rfl, rfl⟩ ⟨rfl, rfl⟩).congr fun _ _ =>
      ⟨fun hr => ⟨hr.1, hr.2, rfl⟩, fun hr => ⟨hr.1, hr.2.1⟩⟩

/-- The run is on one channel at most. -/
theorem proverOn_unique {c c' : Chan} {s : State} (h : proverOn s c = true) (h' : proverOn s c' = true) : c = c' := by
  unfold proverOn at h h'
  cases hp : s.prover.state with
  | idle => simp [hp] at h
  | running d p t w =>
    rw [hp] at h h'
    exact (eq_of_beq h).symm.trans (eq_of_beq h')

theorem proverOn_of_idle {t : State} (c : Chan) (h : t.prover.state = .idle) : proverOn t c = false := by
  simp [proverOn, h]

theorem proverOn_congr {s t : State} (c : Chan) (h : t.prover = s.prover) : proverOn t c = proverOn s c := by
  simp [proverOn, h]

end

/-! ## A channel whose slot leaves READY (R7) -/

/-- Whether a channel loses its module: an active SLOT channel that is not INACTIVE. -/
def losesModule (s : State) (c : Chan) : Prop :=
  s.config.channels[c].active = true ∧ s.config.channels[c].source = .slot ∧ s.channels[c].state ≠ .inactive

/-- What the loss of its module raises for a channel. -/
def lossRaises (s : State) (c : Chan) (src : AlertSource) (obj : Option Nat) : Prop :=
  losesModule s c ∧ obj = some c.val ∧
    ((src = .channelOffline ∧ s.channels[c].state.takesReadings = true) ∨ (src = .proveDone ∧ proverOn s c = true))

/-- The channel of a lost module: the run on it aborted, in OFFLINE. -/
def offlined (s : State) (c : Chan) : State :=
  (abortRun c s).setChannel c { released s c with state := .offline .slotNotReady }

theorem offlined_eq (s : State) (c : Chan) : sendChannel c (.offline .slotNotReady) s = offlined s c :=
  sendChannel_eq c (by simp) s

section
variable {s : State} {c : Chan}

theorem channelSlotLost_kept (h : ¬ losesModule s c) : channelSlotLost c s = s := by
  unfold channelSlotLost
  dsimp only
  split
  · next hg =>
    have hi : s.channels[c].state = .inactive := not_not.mp fun hn => h ⟨hg.1, hg.2, hn⟩
    rw [hi]
  · rfl

theorem channelSlotLost_lost (h : losesModule s c) :
    channelSlotLost c s =
      if s.channels[c].state.takesReadings = true then raise .channelOffline (some c.val) (offlined s c)
      else offlined s c := by
  obtain ⟨ha, hs, hi⟩ := h
  unfold channelSlotLost
  dsimp only
  rw [if_pos ⟨ha, hs⟩, offlined_eq]
  cases hst : s.channels[c].state with
  | inactive => exact absurd hst hi
  | offline why => rfl
  | basing => rfl
  | live => rfl
  | stale => rfl

theorem offlined_raised (h : losesModule s c) :
    RaisedJust (lossRaises s c) s (channelSlotLost c s) := by
  have run : RaisedJust _ s (offlined s c) := (abortRun_raised c s).of_same ⟨rfl, rfl⟩ ⟨rfl, rfl⟩
  rw [channelSlotLost_lost h]
  split
  · next ht =>
    refine (run.trans (raise_raisedJust .channelOffline (some c.val) _)).congr fun src obj => ?_
    simp only [lossRaises, h, ht, true_and, and_true]
    tauto
  · next ht =>
    refine run.congr fun src obj => ?_
    simp only [lossRaises, h, ht, true_and, and_false, false_or, Bool.false_eq_true]
    tauto

/-- What the loss of a channel's module changes. -/
theorem channelSlotLost_effect (h : losesModule s c) :
    (channelSlotLost c s).channels = (abortRun c s).channels.set c
        { released s c with state := .offline .slotNotReady } ∧
      (channelSlotLost c s).prover = (abortRun c s).prover := by
  rw [channelSlotLost_lost h]
  split
  · rw [raise_channels, raise_prover]
    exact ⟨rfl, rfl⟩
  · exact ⟨rfl, rfl⟩

end

theorem channelSlotLost_frame (c : Chan) (s : State) :
    channelSlotLost c s =
      { s with channels := (channelSlotLost c s).channels, prover := (channelSlotLost c s).prover,
               alerts := (channelSlotLost c s).alerts, ports := (channelSlotLost c s).ports } := by
  by_cases h : losesModule s c
  · rw [channelSlotLost_lost h, offlined, abortRun_frame]
    split
    · rw [raise_frame]
      rfl
    · rfl
  · rw [channelSlotLost_kept h]

/-! ## The channels of a slot that leaves READY (R30) -/

theorem mem_channelsOf (sl : Slot) (c : Chan) : c ∈ channelsOf sl ↔ slotOf c = sl := by
  simp only [channelsOf, List.mem_map, List.mem_finRange, true_and]
  constructor
  · rintro ⟨q, rfl⟩
    exact slotOf_chanAt sl q
  · rintro rfl
    refine ⟨positionOf c, Fin.ext ?_⟩
    simp only [chanAt, slotOf, positionOf]
    omega

theorem nodup_channelsOf (sl : Slot) : (channelsOf sl).Nodup := by
  refine (List.nodup_finRange 4).map fun q q' h => ?_
  have hq := congrArg positionOf h
  rwa [positionOf_chanAt, positionOf_chanAt] at hq

/-- What holds after the loss of their modules by some of the channels: the others stand as they did. -/
structure LostUpTo (s : State) (done : List Chan) (t : State) : Prop where
  frame : { t with channels := s.channels, prover := s.prover, alerts := s.alerts, ports := s.ports } = s
  ahead : ∀ c, c ∉ done → t.channels[c] = s.channels[c]
  lost : ∀ c ∈ done, losesModule s c → t.channels[c] = { released s c with state := .offline .slotNotReady }
  kept : ∀ c ∈ done, ¬ losesModule s c → t.channels[c] = s.channels[c]
  aborted : ∀ c ∈ done, losesModule s c → proverOn s c = true → t.prover = { s.prover with state := .idle }
  running : (∀ c ∈ done, losesModule s c → proverOn s c = false) → t.prover = s.prover
  raised : RaisedJust (fun src obj => ∃ c ∈ done, lossRaises s c src obj) s t

theorem LostUpTo.nil (s : State) : LostUpTo s [] s where
  frame := rfl
  ahead _ _ := rfl
  lost _ h := absurd h List.not_mem_nil
  kept _ h := absurd h List.not_mem_nil
  aborted _ h := absurd h List.not_mem_nil
  running _ := rfl
  raised := raisedJust_none rfl rfl fun _ _ ⟨_, h, _⟩ => absurd h List.not_mem_nil

section
variable {s t : State} {done : List Chan} {c : Chan} (hc : c ∉ done) (h : LostUpTo s done t)
include hc h

/-- A channel that is not done yet loses its module as it would have at first. -/
theorem LostUpTo.loses_iff : losesModule t c ↔ losesModule s c := by
  have hconfig : t.config = s.config := (congrArg State.config h.frame :)
  unfold losesModule
  rw [hconfig, h.ahead c hc]

theorem LostUpTo.prover_on (hp : proverOn s c = true) : t.prover = s.prover := by
  refine h.running fun c' hd _ => ?_
  by_contra hn
  exact hc (proverOn_unique hp (Bool.eq_true_of_not_eq_false hn) ▸ hd)

theorem LostUpTo.proverOn_eq : proverOn t c = proverOn s c := by
  by_cases hp : proverOn s c = true
  · exact proverOn_congr c (h.prover_on hc hp)
  · by_cases ha : ∀ c' ∈ done, losesModule s c' → proverOn s c' = false
    · exact proverOn_congr c (h.running ha)
    · push Not at ha
      obtain ⟨c', hd, hl, hn⟩ := ha
      have hi : t.prover = _ := h.aborted c' hd hl (Bool.eq_true_of_not_eq_false hn)
      rw [proverOn_of_idle c (by rw [hi]), Bool.eq_false_iff.mpr hp]

theorem LostUpTo.released_eq : released t c = released s c := by
  have hinterval : t.interval = s.interval := (congrArg State.interval h.frame :)
  unfold released
  rw [h.proverOn_eq hc, h.ahead c hc, hinterval]
  split
  · next hp => rw [h.prover_on hc hp]
  · rfl

theorem LostUpTo.lossRaises_iff (src : AlertSource) (obj : Option Nat) :
    lossRaises t c src obj ↔ lossRaises s c src obj := by
  unfold lossRaises
  rw [h.loses_iff hc, h.proverOn_eq hc, h.ahead c hc]

theorem LostUpTo.step_kept (hl : ¬ losesModule s c) : LostUpTo s (done ++ [c]) (channelSlotLost c t) := by
  rw [channelSlotLost_kept (mt (h.loses_iff hc).mp hl)]
  have old : ∀ c' ∈ done ++ [c], losesModule s c' → c' ∈ done := by
    intro c' hm hl'
    rcases List.mem_append.mp hm with hd | he
    · exact hd
    · exact absurd (List.mem_singleton.mp he ▸ hl') hl
  refine ⟨h.frame, fun c' hn => h.ahead c' fun hd => hn (List.mem_append_left _ hd),
    fun c' hm hl' => h.lost c' (old c' hm hl') hl', fun c' hm hl' => ?_,
    fun c' hm hl' => h.aborted c' (old c' hm hl') hl',
    fun hn => h.running fun c' hd => hn c' (List.mem_append_left _ hd), h.raised.congr fun src obj => ?_⟩
  · by_cases hd : c' ∈ done
    · exact h.kept c' hd hl'
    · exact h.ahead c' hd
  · constructor
    · rintro ⟨c', hd, hr⟩
      exact ⟨c', List.mem_append_left _ hd, hr⟩
    · rintro ⟨c', hm, hr⟩
      exact ⟨c', old c' hm hr.1, hr⟩

theorem LostUpTo.step_lost (hl : losesModule s c) : LostUpTo s (done ++ [c]) (channelSlotLost c t) := by
  have hlt : losesModule t c := (h.loses_iff hc).mpr hl
  obtain ⟨hch, hpr⟩ := channelSlotLost_effect hlt
  obtain ⟨hidle, hrun⟩ := abortRun_prover c t
  have own : (channelSlotLost c t).channels[c] = { released s c with state := .offline .slotNotReady } := by
    rw [hch, get_set_self, h.released_eq hc]
  have other : ∀ c', c' ≠ c → (channelSlotLost c t).channels[c'] = t.channels[c'] := by
    intro c' hne
    rw [hch, get_set_ne _ _ _ _ (Ne.symm hne), abortRun_other c t (Ne.symm hne)]
  have split_done : ∀ c' ∈ done ++ [c], c' = c ∨ (c' ≠ c ∧ c' ∈ done) := by
    intro c' hm
    by_cases he : c' = c
    · exact .inl he
    · exact .inr ⟨he, by simpa [he] using hm⟩
  refine ⟨?_, fun c' hn => ?_, fun c' hm hl' => ?_, fun c' hm hl' => ?_, fun c' hm hl' hp => ?_, fun hn => ?_,
    (h.raised.trans (offlined_raised hlt)).congr fun src obj => ?_⟩
  · rw [channelSlotLost_frame]
    exact h.frame
  · simp only [List.mem_append, List.mem_singleton, not_or] at hn
    rw [other c' hn.2, h.ahead c' hn.1]
  · rcases split_done c' hm with rfl | ⟨hne, hd⟩
    · exact own
    · rw [other c' hne, h.lost c' hd hl']
  · rcases split_done c' hm with rfl | ⟨hne, hd⟩
    · exact absurd hl hl'
    · rw [other c' hne, h.kept c' hd hl']
  · rw [hpr]
    rcases split_done c' hm with rfl | ⟨hne, hd⟩
    · rw [hidle ((h.proverOn_eq hc).trans hp), h.prover_on hc hp]
    · have hoff : proverOn t c = false := by
        rw [h.proverOn_eq hc, Bool.eq_false_iff]
        exact fun hon => hne (proverOn_unique hp hon)
      rw [hrun hoff, h.aborted c' hd hl' hp]
  · have hoff : proverOn t c = false :=
      (h.proverOn_eq hc).trans (hn c (List.mem_append_right _ (List.mem_singleton_self c)) hl)
    rw [hpr, hrun hoff, h.running fun c' hd => hn c' (List.mem_append_left _ hd)]
  · simp only [h.lossRaises_iff hc, List.mem_append, List.mem_singleton, or_and_right, exists_or, exists_eq_left]

theorem LostUpTo.step : LostUpTo s (done ++ [c]) (channelSlotLost c t) := by
  by_cases hl : losesModule s c
  · exact h.step_lost hc hl
  · exact h.step_kept hc hl

end

/-- The channels of a slot lose their modules. -/
theorem lostUpTo_channelsOf (sl : Slot) (s : State) :
    LostUpTo s (channelsOf sl) (forEach (channelsOf sl) channelSlotLost s) :=
  forEach_induct (LostUpTo s) (nodup_channelsOf sl) (fun _ _ _ _ hn h => h.step hn) (.nil s)

/-! ## The lines change (R26) -/

/-- The slot after a presence change. -/
def sensingSlot (a b : Bool) (s : State) (r : SlotRecord) : SlotRecord :=
  { r with state := .sensing, sense := { r.sense with a := a, b := b }, settleDue := some (s.clock + 500),
           partialDue := some (s.clock + 2000) }

/-- The slot after a presence change that takes it out of READY. -/
def abandonedSlot (a b : Bool) (s : State) (r : SlotRecord) : SlotRecord :=
  { sensingSlot a b s r with
    poll := none,
    positions := Vector.ofFn fun q : Position => { r.positions[q] with nextDue := none, failed := 0 } }

theorem not_same_levels {x y a b : Bool} (h : x ≠ a ∨ y ≠ b) : ¬ (x = a ∧ y = b) := by
  rintro ⟨rfl, rfl⟩
  simp at h

section
variable {sl : Slot} {a b : Bool} {s : State} (h : s.slots[sl].sense.a ≠ a ∨ s.slots[sl].sense.b ≠ b)
include h

theorem exec_presenceChange_idle (hm : s.slots[sl].state.module = none) :
    exec (.presenceChange sl a b) s = .next (s.setSlot sl (sensingSlot a b s s.slots[sl])) := by
  refine congrArg Host.Outcome.next ((if_neg (not_same_levels h)).trans (if_neg ?_))
  rw [hm]
  exact Bool.false_ne_true

theorem exec_presenceChange_ready (hm : s.slots[sl].state.module ≠ none) :
    exec (.presenceChange sl a b) s =
      .next (forEach (channelsOf sl) channelSlotLost (s.setSlot sl (abandonedSlot a b s s.slots[sl]))) := by
  refine congrArg Host.Outcome.next ((if_neg (not_same_levels h)).trans ((if_pos ?_).trans ?_))
  · exact Option.isSome_iff_ne_none.mpr hm
  · unfold leaveReady
    simp only [State.setSlot, get_set_self, Vector.set_set]
    rfl

end

/-- Settles O23: the channels by what holds after each of them (`LostUpTo`). -/
theorem lineChangesRestartSensing : Obligations.LineChangesRestartSensing := by
  intro sl a b s
  refine ⟨fun h => ⟨exec_presenceChange_idle h, fun hm => ?_⟩, fun k1 k2 h => ?_⟩
  · have all := lostUpTo_channelsOf sl (s.setSlot sl (abandonedSlot a b s s.slots[sl]))
    refine ⟨_, exec_presenceChange_ready h hm, ?_⟩
    generalize forEach (channelsOf sl) channelSlotLost (s.setSlot sl (abandonedSlot a b s s.slots[sl])) = t at all
    have hslots : t.slots = s.slots.set sl (abandonedSlot a b s s.slots[sl]) := (congrArg State.slots all.frame :)
    have hown : t.slots[sl] = abandonedSlot a b s s.slots[sl] := by rw [hslots, get_set_self]
    refine ⟨?_, ?_, fun q => ?_, fun sl' hne => ?_, fun c => ⟨fun ⟨hsl, hl⟩ => ?_, fun hl => ?_⟩, fun hp => ?_, ?_⟩
    · exact congrArg (fun u : State => { u with slots := s.slots }) all.frame
    · rw [hown]
      rfl
    · rw [hown]
      exact get_ofFn _ q
    · rw [hslots, get_set_ne _ _ _ _ (Ne.symm hne)]
    · have hc := (mem_channelsOf sl c).mpr hsl
      exact ⟨all.lost c hc hl, all.aborted c hc hl⟩
    · by_cases hc : c ∈ channelsOf sl
      · exact all.kept c hc fun hl' => hl ⟨(mem_channelsOf sl c).mp hc, hl'⟩
      · exact all.ahead c hc
    · exact all.running fun c hc hl => hp c ⟨(mem_channelsOf sl c).mp hc, hl⟩
    · refine (all.raised.of_same ⟨rfl, rfl⟩ ⟨rfl, rfl⟩).congr fun src obj => ?_
      constructor
      · rintro ⟨c, hc, hl, hr⟩
        exact ⟨c, ⟨(mem_channelsOf sl c).mp hc, hl⟩, hr⟩
      · rintro ⟨c, ⟨hsl, hl⟩, hr⟩
        exact ⟨c, (mem_channelsOf sl c).mpr hsl, hl, hr⟩
  · exact congrArg Host.Outcome.next (if_neg (not_same_levels h))

end Sys2Proof.Machine
end

section
/-! PROOF. O24 and O11: what an event for each of some channels gives, where it sets the channel's record and its meter
position. -/

namespace Sys2Proof.Machine

/-! ## Meter positions -/

theorem chan_ext {c c' : Chan} (hs : slotOf c = slotOf c') (hp : positionOf c = positionOf c') : c = c' := by
  have hs' : c.val / 4 = c'.val / 4 := congrArg Fin.val hs
  have hp' : c.val % 4 = c'.val % 4 := congrArg Fin.val hp
  apply Fin.ext
  omega

theorem chanAt_of (c : Chan) : chanAt (slotOf c) (positionOf c) = c :=
  chan_ext (slotOf_chanAt ..) (positionOf_chanAt ..)

/-- A slot record after a position was written. -/
theorem setPosition_slots (s : State) (c : Chan) (r : PositionRecord) (sl : Slot) :
    (s.setPosition c r).slots[sl] =
      if slotOf c = sl then
        { s.slots[slotOf c] with positions := s.slots[slotOf c].positions.set (positionOf c) r }
      else s.slots[sl] :=
  get_set ..

/-- A position record after one was written. -/
theorem setPosition_position (s : State) (c c' : Chan) (r : PositionRecord) :
    (s.setPosition c r).position c' = if c = c' then r else s.position c' := by
  unfold State.position
  rw [setPosition_slots]
  by_cases hs : slotOf c = slotOf c'
  · have hslot : s.slots[slotOf c] = s.slots[slotOf c'] := congrArg (fun sl : Slot => s.slots[sl]) hs
    rw [if_pos hs, get_set, hslot]
    by_cases hp : positionOf c = positionOf c'
    · rw [if_pos hp, if_pos (chan_ext hs hp)]
    · rw [if_neg hp, if_neg fun h => hp (congrArg positionOf h)]
  · rw [if_neg hs, if_neg fun h => hs (congrArg slotOf h)]

/-- Writing a position changes nothing of a slot but its positions. -/
theorem setPosition_slot (s : State) (c : Chan) (r : PositionRecord) (sl : Slot) :
    { (s.setPosition c r).slots[sl] with positions := s.slots[sl].positions } = s.slots[sl] := by
  rw [setPosition_slots]
  split
  · next h =>
    subst h
    rfl
  · rfl

/-- A slot record that differs in its positions at most does not differ where they are the same. -/
theorem slotRecord_ext {r r' : SlotRecord} (h : { r with positions := r'.positions } = r')
    (hp : ∀ q : Position, r.positions[q] = r'.positions[q]) : r = r' := by
  have hv : r.positions = r'.positions := Vector.ext fun i hi => hp ⟨i, hi⟩
  calc r = { r with positions := r'.positions } := by rw [← hv]
    _ = r' := h

/-- The polling of a position depends on its slot's state, the configuration, its channel's state and the clock. -/
theorem renewed_congr {s t : State} {c : Chan} (hs : t.slots[slotOf c].state = s.slots[slotOf c].state)
    (hg : t.config = s.config) (hc : t.channels[c].state = s.channels[c].state) (ht : t.clock = s.clock)
    (pr : PositionRecord) : renewed t c pr = renewed s c pr := by
  unfold renewed pollable
  rw [hs, hg, hc, ht]

theorem renewPolling_eq (c : Chan) (s : State) : renewPolling c s = s.setPosition c (renewed s c (s.position c)) := by
  unfold renewPolling renewed
  dsimp only
  split <;> rfl

/-! ## One channel's record and position written -/

/-- A channel's record and position written, with MODULE_MISMATCH raised for it or not. -/
def metered (c : Chan) (r : ChannelRecord) (p : PositionRecord) (mismatch : Bool) (s : State) : State :=
  if mismatch then raise .moduleMismatch (some c.val) ((s.setChannel c r).setPosition c p)
  else (s.setChannel c r).setPosition c p

section
variable (c : Chan) (r : ChannelRecord) (p : PositionRecord) (mismatch : Bool) (s : State)

theorem metered_channels : (metered c r p mismatch s).channels = s.channels.set c r := by
  unfold metered
  split
  · exact raise_channels ..
  · rfl

theorem metered_slots : (metered c r p mismatch s).slots = (s.setPosition c p).slots := by
  unfold metered
  split
  · exact raise_slots ..
  · rfl

theorem metered_frame :
    metered c r p mismatch s =
      { s with channels := (metered c r p mismatch s).channels, slots := (metered c r p mismatch s).slots,
               alerts := (metered c r p mismatch s).alerts, ports := (metered c r p mismatch s).ports } := by
  unfold metered
  split
  · rw [raise_frame]
    rfl
  · rfl

theorem metered_raised :
    RaisedJust (fun src obj => src = .moduleMismatch ∧ obj = some c.val ∧ mismatch = true) s
      (metered c r p mismatch s) := by
  unfold metered
  split
  · next h =>
    exact ((raise_raisedJust .moduleMismatch (some c.val) _).of_same ⟨rfl, rfl⟩ ⟨rfl, rfl⟩).congr fun _ _ =>
      ⟨fun hr => ⟨hr.1, hr.2, h⟩, fun hr => ⟨hr.1, hr.2.1⟩⟩
  · next h => exact raisedJust_none rfl rfl fun _ _ hr => h hr.2.2

end

/-! ## Some channels' records and positions written -/

/-- What holds after records and positions were written for some of the channels, with MODULE_MISMATCH raised for those
that are `mismatched`: the others stand as they did. -/
structure MeteredUpTo (record : Chan → ChannelRecord) (position : Chan → PositionRecord) (mismatched : Chan → Bool)
    (s : State) (done : List Chan) (t : State) : Prop where
  frame : { t with channels := s.channels, slots := s.slots, alerts := s.alerts, ports := s.ports } = s
  slot : ∀ sl : Slot, { t.slots[sl] with positions := s.slots[sl].positions } = s.slots[sl]
  ahead : ∀ c, c ∉ done → t.channels[c] = s.channels[c] ∧ t.position c = s.position c
  written : ∀ c ∈ done, t.channels[c] = record c ∧ t.position c = position c
  raised : RaisedJust (fun src obj => src = .moduleMismatch ∧ ∃ c ∈ done, obj = some c.val ∧ mismatched c = true) s t

section
variable {record : Chan → ChannelRecord} {position : Chan → PositionRecord} {mismatched : Chan → Bool}
  {s t : State} {done : List Chan}

theorem MeteredUpTo.nil : MeteredUpTo record position mismatched s [] s where
  frame := rfl
  slot _ := rfl
  ahead _ _ := ⟨rfl, rfl⟩
  written _ h := absurd h List.not_mem_nil
  raised := raisedJust_none rfl rfl fun _ _ ⟨_, _, h, _⟩ => absurd h List.not_mem_nil

theorem MeteredUpTo.config_eq (h : MeteredUpTo record position mismatched s done t) : t.config = s.config :=
  (congrArg State.config h.frame :)

theorem MeteredUpTo.clock_eq (h : MeteredUpTo record position mismatched s done t) : t.clock = s.clock :=
  (congrArg State.clock h.frame :)

theorem MeteredUpTo.interval_eq (h : MeteredUpTo record position mismatched s done t) : t.interval = s.interval :=
  (congrArg State.interval h.frame :)

theorem MeteredUpTo.slotState_eq (h : MeteredUpTo record position mismatched s done t) (sl : Slot) :
    t.slots[sl].state = s.slots[sl].state :=
  (congrArg SlotRecord.state (h.slot sl) :)

theorem MeteredUpTo.step {c : Chan} (h : MeteredUpTo record position mismatched s done t) :
    MeteredUpTo record position mismatched s (done ++ [c]) (metered c (record c) (position c) (mismatched c) t) := by
  have hch (c' : Chan) : (metered c (record c) (position c) (mismatched c) t).channels[c'] =
      if c = c' then record c else t.channels[c'] := by
    rw [metered_channels, get_set]
  have hpos (c' : Chan) : (metered c (record c) (position c) (mismatched c) t).position c' =
      if c = c' then position c else t.position c' := by
    rw [State.position, metered_slots]
    exact setPosition_position t c c' (position c)
  refine ⟨?_, fun sl => ?_, fun c' hn => ?_, fun c' hm => ?_, ?_⟩
  · rw [metered_frame]
    exact h.frame
  · have hp := congrArg (fun r : SlotRecord => { r with positions := s.slots[sl].positions })
      (setPosition_slot t c (position c) sl)
    rw [metered_slots]
    exact hp.trans (h.slot sl)
  · simp only [List.mem_append, List.mem_singleton, not_or] at hn
    rw [hch, hpos, if_neg (Ne.symm hn.2), if_neg (Ne.symm hn.2)]
    exact h.ahead c' hn.1
  · rw [hch, hpos]
    by_cases he : c = c'
    · subst he
      rw [if_pos rfl, if_pos rfl]
      exact ⟨rfl, rfl⟩
    · rw [if_neg he, if_neg he]
      exact h.written c' (by simpa [Ne.symm he] using hm)
  · refine (h.raised.trans (metered_raised c (record c) (position c) (mismatched c) t)).congr fun src obj => ?_
    simp only [List.mem_append, List.mem_singleton, or_and_right, exists_or, exists_eq_left, ← and_or_left]

/-- An event that sets each channel's record and position, whatever was set before it of other channels. -/
theorem meteredUpTo_forEach {f : Chan → State → State} {cs : List Chan} (hn : cs.Nodup)
    (step : ∀ done c t, c ∈ cs → c ∉ done → MeteredUpTo record position mismatched s done t →
      f c t = metered c (record c) (position c) (mismatched c) t) :
    MeteredUpTo record position mismatched s cs (forEach cs f s) :=
  forEach_induct (MeteredUpTo record position mismatched s) hn
    (fun done c t hc hd h => step done c t hc hd h ▸ h.step) .nil

end

end Sys2Proof.Machine
end

section
/-! PROOF. O24: what the settle and the partial timer make of a slot, and what a slot that enters READY makes of its
channels. -/

namespace Sys2Proof.Machine

/-! ## A channel whose slot enters READY (R8) -/

/-- Whether a channel follows its slot: an active SLOT channel in OFFLINE. -/
def followsSlot (s : State) (c : Chan) : Bool :=
  match s.config.channels[c].active, s.config.channels[c].source, s.channels[c].state with
  | true, .slot, .offline _ => true
  | _, _, _ => false

theorem followsSlot_iff (s : State) (c : Chan) :
    followsSlot s c = true ↔
      s.config.channels[c].active = true ∧ s.config.channels[c].source = .slot ∧
        ∃ why, s.channels[c].state = .offline why := by
  unfold followsSlot
  split
  · next ha hs ho => exact ⟨fun _ => ⟨ha, hs, _, ho⟩, fun _ => rfl⟩
  · next hn => exact ⟨fun h => absurd h Bool.false_ne_true, fun ⟨ha, hs, why, ho⟩ => absurd ho (hn why ha hs)⟩

/-- The record of a channel whose slot entered READY with a module. -/
def readied (m : ModuleType) (s : State) (c : Chan) : ChannelRecord :=
  if followsSlot s c then
    if m.suits s.config.channels[c].expected then
      match s.config.channels[c].expected with
      | .pulse =>
        { s.channels[c] with
          state := .live, base := some (s.position c).counter, lastReading := s.interval.plantTime }
      | .serial => { s.channels[c] with state := if s.channels[c].base.isSome then .live else .basing }
    else { s.channels[c] with state := .offline .mismatch }
  else s.channels[c]

/-- Whether the module is of the wrong type for a channel that follows its slot. -/
def misfits (m : ModuleType) (s : State) (c : Chan) : Bool :=
  followsSlot s c && !m.suits s.config.channels[c].expected

/-- A module of the wrong type for a channel. -/
theorem suits_iff (m : ModuleType) (e : Expected) : m.suits e = false ↔ (e = .pulse ↔ m = .serial4) := by
  cases m <;> cases e <;> decide

theorem misfits_iff (m : ModuleType) (s : State) (c : Chan) :
    misfits m s c = true ↔
      followsSlot s c = true ∧ (s.config.channels[c].expected = .pulse ↔ m = .serial4) := by
  rw [misfits, Bool.and_eq_true, Bool.not_eq_true', suits_iff]

theorem set_get_self {α : Type} {n : Nat} (v : Vector α n) (i : Fin n) : v.set i v[i] = v :=
  Vector.set_getElem_self i.isLt

theorem setChannel_self (s : State) (c : Chan) : s.setChannel c s.channels[c] = s := by
  unfold State.setChannel
  rw [set_get_self]

theorem setPosition_self (s : State) (c : Chan) : s.setPosition c (s.position c) = s := by
  have hr : ({ s.slots[slotOf c] with
      positions := s.slots[slotOf c].positions.set (positionOf c) s.slots[slotOf c].positions[positionOf c] } :
      SlotRecord) = s.slots[slotOf c] := by
    rw [set_get_self]
  unfold State.setPosition State.position State.setSlot
  dsimp only
  rw [hr, set_get_self]

/-- Where a position stays as it is, the channel's record alone is written. -/
theorem metered_position (c : Chan) (r : ChannelRecord) (mismatch : Bool) (s : State) :
    metered c r (s.position c) mismatch s =
      if mismatch then raise .moduleMismatch (some c.val) (s.setChannel c r) else s.setChannel c r := by
  have hp : (s.setChannel c r).setPosition c (s.position c) = s.setChannel c r :=
    setPosition_self (s.setChannel c r) c
  unfold metered
  rw [hp]

/-- An entry to READY writes the record of each channel of the slot. -/
theorem channelSlotReady_eq (m : ModuleType) (c : Chan) (s : State) :
    channelSlotReady m c s = metered c (readied m s c) (s.position c) (misfits m s c) s := by
  rw [metered_position]
  unfold channelSlotReady
  dsimp only
  split
  · next ha hs ho =>
    have hf : followsSlot s c = true := (followsSlot_iff s c).mpr ⟨ha, hs, _, ho⟩
    unfold readied misfits
    rw [hf]
    cases hm : m.suits s.config.channels[c].expected with
    | false => rfl
    | true => cases he : s.config.channels[c].expected <;> rfl
  · next hn =>
    have hf : followsSlot s c = false := by
      rw [Bool.eq_false_iff]
      intro h
      obtain ⟨ha, hs, why, ho⟩ := (followsSlot_iff s c).mp h
      exact hn why ha hs ho
    unfold readied misfits
    rw [hf]
    exact (setChannel_self s c).symm

section
variable {m : ModuleType} {s : State} {c : Chan}

theorem readied_kept (h : followsSlot s c = false) : readied m s c = s.channels[c] := by
  unfold readied
  rw [h]
  rfl

theorem readied_pulse (h : followsSlot s c = true) (he : s.config.channels[c].expected = .pulse) (hm : m ≠ .serial4) :
    readied m s c = { s.channels[c] with
      state := .live, base := some (s.position c).counter, lastReading := s.interval.plantTime } := by
  have hs : m.suits .pulse = true := bne_iff_ne.mpr hm
  unfold readied
  rw [h, he, hs]
  rfl

theorem readied_serial (h : followsSlot s c = true) (he : s.config.channels[c].expected = .serial)
    (hm : m = .serial4) :
    readied m s c = { s.channels[c] with state := if s.channels[c].base = none then .basing else .live } := by
  have hb : (if s.channels[c].base.isSome = true then ChannelState.live else .basing) =
      if s.channels[c].base = none then .basing else .live := by
    cases s.channels[c].base <;> rfl
  unfold readied
  rw [h, he, hm, ← hb]
  rfl

theorem readied_misfit (h : followsSlot s c = true) (hm : s.config.channels[c].expected = .pulse ↔ m = .serial4) :
    readied m s c = { s.channels[c] with state := .offline .mismatch } := by
  unfold readied
  rw [h, (suits_iff _ _).mpr hm]
  rfl

end

/-! ## The channels of a slot that enters READY (R29, R35) -/

theorem position_chanAt (s : State) (sl : Slot) (q : Position) :
    s.position (chanAt sl q) = s.slots[sl].positions[q] := by
  simp only [State.position, slotOf_chanAt, positionOf_chanAt]

/-- Positions written after the channels of the same list. -/
theorem MeteredUpTo.reposition {record : Chan → ChannelRecord} {position position' : Chan → PositionRecord}
    {mismatched : Chan → Bool} {s t u : State} {cs : List Chan}
    (h : MeteredUpTo record position mismatched s cs t)
    (k : MeteredUpTo (fun c => t.channels[c]) position' (fun _ => false) t cs u) :
    MeteredUpTo record position' mismatched s cs u where
  frame := (congrArg
    (fun x : State => { x with channels := s.channels, slots := s.slots, alerts := s.alerts, ports := s.ports })
    k.frame).trans h.frame
  slot sl :=
    (congrArg (fun r : SlotRecord => { r with positions := s.slots[sl].positions }) (k.slot sl)).trans (h.slot sl)
  ahead c hc := ⟨(k.ahead c hc).1.trans (h.ahead c hc).1, (k.ahead c hc).2.trans (h.ahead c hc).2⟩
  written c hc := ⟨(k.written c hc).1.trans (h.written c hc).1, (k.written c hc).2⟩
  raised := (h.raised.trans k.raised).congr fun src obj => by simp

/-- Positions renewed after the channels of the same list. -/
theorem MeteredUpTo.renew {record : Chan → ChannelRecord} {position : Chan → PositionRecord}
    {mismatched : Chan → Bool} {s t u : State} {cs : List Chan}
    (h : MeteredUpTo record position mismatched s cs t)
    (k : MeteredUpTo (fun c => t.channels[c]) (fun c => renewed t c (t.position c)) (fun _ => false) t cs u) :
    MeteredUpTo record (fun c => renewed u c (position c)) mismatched s cs u := by
  have both := h.reposition k
  refine { both with written := fun c hc => ⟨(both.written c hc).1, (both.written c hc).2.trans ?_⟩ }
  rw [(h.written c hc).2]
  exact (renewed_congr (k.slotState_eq _) k.config_eq (congrArg ChannelRecord.state (k.written c hc).1) k.clock_eq
    _).symm

/-- The channels of a slot that entered READY. -/
theorem readied_channelsOf (sl : Slot) (m : ModuleType) (s : State) :
    MeteredUpTo (readied m s) s.position (misfits m s) s (channelsOf sl)
      (forEach (channelsOf sl) (channelSlotReady m) s) := by
  refine meteredUpTo_forEach (nodup_channelsOf sl) fun done c t _ hc h => ?_
  obtain ⟨hch, hpos⟩ := h.ahead c hc
  have hf : followsSlot t c = followsSlot s c := by
    unfold followsSlot
    rw [h.config_eq, hch]
  have hr : readied m t c = readied m s c := by
    unfold readied
    rw [hf, h.config_eq, hch, hpos, h.interval_eq]
  have hm : misfits m t c = misfits m s c := by
    unfold misfits
    rw [hf, h.config_eq]
  rw [channelSlotReady_eq, hr, hm, hpos]

/-- The meters of a slot's positions renewed. -/
theorem renewed_channelsOf (sl : Slot) (s : State) :
    MeteredUpTo (fun c => s.channels[c]) (fun c => renewed s c (s.position c)) (fun _ => false) s (channelsOf sl)
      (forEach (channelsOf sl) renewPolling s) := by
  refine meteredUpTo_forEach (nodup_channelsOf sl) fun done c t _ hc h => ?_
  obtain ⟨hch, hpos⟩ := h.ahead c hc
  have hn : renewed t c (t.position c) = renewed s c (s.position c) := by
    rw [hpos]
    exact renewed_congr (h.slotState_eq _) h.config_eq (congrArg ChannelRecord.state hch) h.clock_eq _
  have hw : metered c s.channels[c] (renewed s c (s.position c)) false t =
      (t.setChannel c s.channels[c]).setPosition c (renewed s c (s.position c)) := rfl
  rw [renewPolling_eq, hn, hw, ← hch, setChannel_self]

/-- The slot as it enters READY, before its channels. -/
def preparedSlot (m : ModuleType) (r : SlotRecord) : SlotRecord :=
  { r with state := .ready m, settleDue := none, partialDue := none, positions := preparePositions m r.positions }

/-- The state in which the channels of a slot that enters READY are taken through R8. -/
def prepared (sl : Slot) (m : ModuleType) (s : State) : State := s.setSlot sl (preparedSlot m s.slots[sl])

theorem enterReady_eq (sl : Slot) (m : ModuleType) (s : State) :
    enterReady sl m s =
      if m = .serial4 then
        forEach (channelsOf sl) renewPolling (forEach (channelsOf sl) (channelSlotReady m) (prepared sl m s))
      else forEach (channelsOf sl) (channelSlotReady m) (prepared sl m s) := rfl

/-- What a slot that enters READY makes of its channels. -/
theorem enterReady_metered (sl : Slot) (m : ModuleType) (s : State) :
    MeteredUpTo (readied m (prepared sl m s))
      (fun c => if m = .serial4 then renewed (enterReady sl m s) c ((prepared sl m s).position c)
        else (prepared sl m s).position c)
      (misfits m (prepared sl m s)) (prepared sl m s) (channelsOf sl) (enterReady sl m s) := by
  have first := readied_channelsOf sl m (prepared sl m s)
  rw [enterReady_eq]
  by_cases hm : m = .serial4
  · simp only [if_pos hm]
    exact first.renew (renewed_channelsOf sl _)
  · simp only [if_neg hm]
    exact first

end Sys2Proof.Machine
end

section
/-! PROOF. O24: what the settle and the partial timer make of a slot. -/

namespace Sys2Proof.Machine

/-! ## A settled slot (R27) -/

theorem prepared_position (sl : Slot) (m : ModuleType) (s : State) (q : Position) :
    (prepared sl m s).position (chanAt sl q) =
      if m = .serial4 then { s.slots[sl].positions[q] with nextDue := none, failed := 0 }
      else { s.slots[sl].positions[q] with counter := 0, nextDue := none } := by
  have hprep : (prepared sl m s).slots[sl] = preparedSlot m s.slots[sl] := get_set_self ..
  rw [position_chanAt, hprep]
  exact get_ofFn _ q

/-- What the settling of a slot raises, where it is settled as `st`. -/
def settlingRaises (sl : Slot) (s : State) (st : SlotState) (src : AlertSource) (obj : Option Nat) : Prop :=
  (src = .moduleRejected ∧ obj = some sl.val ∧ ∃ why, st = .rejected why) ∨
  (src = .moduleMismatch ∧ ∃ c : Chan, obj = some c.val ∧ slotOf c = sl ∧
    s.config.channels[c].active = true ∧ s.config.channels[c].source = .slot ∧
    (∃ why, s.channels[c].state = .offline why) ∧
    ∃ m, st = .ready m ∧ (s.config.channels[c].expected = .pulse ↔ m = .serial4))

/-- `t` is `s` with a slot settled as `st`. -/
structure Settled (sl : Slot) (s : State) (st : SlotState) (t : State) : Prop where
  frame : { t with slots := s.slots, channels := s.channels, alerts := s.alerts, ports := s.ports } = s
  others : ∀ sl' : Slot, sl' ≠ sl → t.slots[sl'] = s.slots[sl']
  slot : { t.slots[sl] with
      state := s.slots[sl].state, partialDue := s.slots[sl].partialDue, positions := s.slots[sl].positions } =
    { s.slots[sl] with settleDue := none }
  state : t.slots[sl].state = st
  partialDue : t.slots[sl].partialDue = if st = .sensing then s.slots[sl].partialDue else none
  unready : (∀ m, st ≠ .ready m) → t.channels = s.channels ∧ t.slots[sl].positions = s.slots[sl].positions
  position : ∀ m, st = .ready m → ∀ q : Position, t.slots[sl].positions[q] =
    if m = .serial4 then renewed t (chanAt sl q) ((prepared sl m s).position (chanAt sl q))
    else (prepared sl m s).position (chanAt sl q)
  channel : ∀ m, st = .ready m → ∀ c : Chan,
    (slotOf c = sl → t.channels[c] = readied m (prepared sl m s) c) ∧ (slotOf c ≠ sl → t.channels[c] = s.channels[c])
  raised : RaisedJust (settlingRaises sl s st) s t

/-- The record of a slot that is settled, but not as READY. -/
def settledSlot (st : SlotState) (r : SlotRecord) : SlotRecord :=
  { r with state := st, settleDue := none, partialDue := if st = .sensing then r.partialDue else none }

theorem settled_unready {sl : Slot} {s t : State} {st : SlotState} (hst : ∀ m, st ≠ .ready m)
    (ht : t = { s.setSlot sl (settledSlot st s.slots[sl]) with alerts := t.alerts, ports := t.ports })
    (hr : RaisedJust (fun src obj => src = .moduleRejected ∧ obj = some sl.val ∧ ∃ why, st = .rejected why) s t) :
    Settled sl s st t := by
  have hslots : t.slots = s.slots.set sl (settledSlot st s.slots[sl]) := (congrArg State.slots ht :)
  have hown : t.slots[sl] = settledSlot st s.slots[sl] := by rw [hslots, get_set_self]
  refine ⟨?_, fun sl' hne => ?_, ?_, ?_, ?_, fun _ => ⟨(congrArg State.channels ht :), ?_⟩,
    fun m hm => absurd hm (hst m), fun m hm => absurd hm (hst m), hr.congr fun src obj => ?_⟩
  · rw [ht]
    rfl
  · rw [hslots, get_set_ne _ _ _ _ (Ne.symm hne)]
  · rw [hown]
    rfl
  · rw [hown]
    rfl
  · rw [hown]
    rfl
  · rw [hown]
    rfl
  · refine ⟨.inl, fun h => h.resolve_right ?_⟩
    rintro ⟨-, c, -, -, -, -, -, m, hm, -⟩
    exact hst m hm

theorem settled_quiet (sl : Slot) (s : State) {st : SlotState} (h : st = .empty ∨ st = .sensing) :
    Settled sl s st (s.setSlot sl (settledSlot st s.slots[sl])) := by
  refine settled_unready (fun m hm => ?_) rfl (raisedJust_none rfl rfl fun _ _ hr => ?_)
  · rcases h with rfl | rfl <;> cases hm
  · obtain ⟨-, -, why, hw⟩ := hr
    rcases h with rfl | rfl <;> cases hw

theorem settled_rejected (sl : Slot) (s : State) (why : RejectReason) :
    Settled sl s (.rejected why)
      (raise .moduleRejected (some sl.val) (s.setSlot sl (settledSlot (.rejected why) s.slots[sl]))) :=
  settled_unready (fun m hm => by cases hm) (raise_frame ..)
    (((raise_raisedJust .moduleRejected (some sl.val) _).of_same ⟨rfl, rfl⟩ ⟨rfl, rfl⟩).congr fun _ _ =>
      ⟨fun hr => ⟨hr.1, hr.2, why, rfl⟩, fun hr => ⟨hr.1, hr.2.1⟩⟩)

theorem settled_ready (sl : Slot) (m : ModuleType) (s : State) : Settled sl s (.ready m) (enterReady sl m s) := by
  have h := enterReady_metered sl m s
  generalize enterReady sl m s = t at h
  have hslots : (prepared sl m s).slots = s.slots.set sl (preparedSlot m s.slots[sl]) := rfl
  have hprep : (prepared sl m s).slots[sl] = preparedSlot m s.slots[sl] := get_set_self ..
  have hslot := h.slot sl
  rw [hprep] at hslot
  have mine (c : Chan) (hc : slotOf c = sl) := h.written c ((mem_channelsOf sl c).mpr hc)
  have theirs (c : Chan) (hc : slotOf c ≠ sl) := h.ahead c (mt (mem_channelsOf sl c).mp hc)
  refine ⟨?_, fun sl' hne => ?_, ?_, ?_, ?_, fun hn => absurd rfl (hn m), ?_, ?_, h.raised.congr fun src obj => ?_⟩
  · exact congrArg (fun u : State => { u with slots := s.slots }) h.frame
  · have hother : (prepared sl m s).slots[sl'] = s.slots[sl'] := by rw [hslots, get_set_ne _ _ _ _ (Ne.symm hne)]
    refine (slotRecord_ext (h.slot sl') fun q => ?_).trans hother
    have hq := (theirs (chanAt sl' q) (by rwa [slotOf_chanAt])).2
    rwa [position_chanAt, position_chanAt] at hq
  · exact congrArg (fun r : SlotRecord => { r with
      state := s.slots[sl].state, partialDue := s.slots[sl].partialDue, positions := s.slots[sl].positions }) hslot
  · exact (congrArg SlotRecord.state hslot :)
  · exact (congrArg SlotRecord.partialDue hslot :)
  · rintro m' hm' q
    obtain rfl := SlotState.ready.inj hm'
    have hq := (mine (chanAt sl q) (slotOf_chanAt sl q)).2
    rwa [position_chanAt] at hq
  · rintro m' hm' c
    obtain rfl := SlotState.ready.inj hm'
    exact ⟨fun hc => (mine c hc).1, fun hc => (theirs c hc).1⟩
  · constructor
    · rintro ⟨rfl, c, hc, rfl, hm⟩
      obtain ⟨hf, hm⟩ := (misfits_iff m _ c).mp hm
      obtain ⟨ha, hs, ho⟩ := (followsSlot_iff _ c).mp hf
      exact .inr ⟨rfl, c, rfl, (mem_channelsOf sl c).mp hc, ha, hs, ho, m, rfl, hm⟩
    · rintro (⟨-, -, why, hw⟩ | ⟨rfl, c, rfl, hc, ha, hs, ho, m', hm', hm⟩)
      · cases hw
      · obtain rfl := SlotState.ready.inj hm'
        exact ⟨rfl, c, (mem_channelsOf sl c).mpr hc, rfl,
          (misfits_iff m _ c).mpr ⟨(followsSlot_iff _ c).mpr ⟨ha, hs, ho⟩, hm⟩⟩

/-! ## The settle timer (R27, R28) -/

/-- What lines decode to. -/
def decoded (lines : Sense) (partialDue : Option Nat) : SlotState :=
  match lines with
  | ⟨true, true, false, false⟩ => .ready .pulse4
  | ⟨true, true, false, true⟩ => .ready .pulse4f
  | ⟨true, true, true, false⟩ => .ready .serial4
  | ⟨true, true, true, true⟩ => .rejected .unrecognised
  | ⟨false, false, _, _⟩ => .empty
  | _ => if partialDue = none then .rejected .partly else .sensing

/-- A slot whose settle timer has stopped. -/
def unsettled (sl : Slot) (s : State) : State := s.setSlot sl { s.slots[sl] with settleDue := none }

theorem setSlot_setSlot (s : State) (sl : Slot) (r r' : SlotRecord) :
    (s.setSlot sl r).setSlot sl r' = s.setSlot sl r' := by
  simp [State.setSlot]

theorem unsettled_slot (sl : Slot) (s : State) :
    (unsettled sl s).slots[sl] = { s.slots[sl] with settleDue := none } := by
  rw [unsettled, State.setSlot_slots, get_set_self]

theorem enterReady_unsettled (sl : Slot) (m : ModuleType) (s : State) :
    enterReady sl m (unsettled sl s) = enterReady sl m s := by
  have hp : prepared sl m (unsettled sl s) = prepared sl m s := by
    unfold prepared
    rw [unsettled_slot, unsettled, setSlot_setSlot]
    rfl
  rw [enterReady_eq, enterReady_eq, hp]

theorem enterRejected_unsettled (sl : Slot) (why : RejectReason) (s : State) :
    enterRejected sl why (unsettled sl s) =
      raise .moduleRejected (some sl.val) (s.setSlot sl (settledSlot (.rejected why) s.slots[sl])) := by
  unfold enterRejected
  rw [unsettled_slot, unsettled, setSlot_setSlot]
  rfl

/-- A settled slot without a module. -/
def enterEmpty (sl : Slot) (s : State) : State :=
  s.setSlot sl { s.slots[sl] with state := .empty, partialDue := none }

theorem enterEmpty_unsettled (sl : Slot) (s : State) :
    enterEmpty sl (unsettled sl s) = s.setSlot sl (settledSlot .empty s.slots[sl]) := by
  rw [enterEmpty, unsettled_slot, unsettled, setSlot_setSlot]
  rfl

theorem unsettled_sensing {sl : Slot} {s : State} (h : s.slots[sl].state = .sensing) :
    unsettled sl s = s.setSlot sl (settledSlot .sensing s.slots[sl]) := by
  unfold unsettled settledSlot
  rw [← h, if_pos rfl]

section
variable {sl : Slot} {s : State}

theorem not_reached {due : Nat} {o : Option Nat} (ho : o = some due) (h : s.clock < due) : ¬ reached s o = true := by
  rw [reached_iff]
  rintro ⟨d, hd, hle⟩
  obtain rfl := Option.some.inj (ho.symm.trans hd)
  omega

theorem reached_of {due : Nat} {o : Option Nat} (ho : o = some due) (h : due ≤ s.clock) : reached s o = true :=
  (reached_iff s o).mpr ⟨due, ho, h⟩

/-- Before its time a timer's expiry changes nothing. -/
theorem exec_settleTimer_early {due : Nat} (hd : s.slots[sl].settleDue = some due) (h : s.clock < due) :
    exec (.settleTimerExpiry sl) s = .next s :=
  congrArg Host.Outcome.next (if_neg fun hr => not_reached hd h hr.2)

theorem exec_partialTimer_early {due : Nat} (hd : s.slots[sl].partialDue = some due) (h : s.clock < due) :
    exec (.partialTimerExpiry sl) s = .next s :=
  congrArg Host.Outcome.next (if_neg fun hr => not_reached hd h hr.2)

/-- The settling of a slot whose settle timer has stopped. -/
def settleLines (lines : Sense) (partialDue : Option Nat) (sl : Slot) (s : State) : State :=
  match lines with
  | ⟨true, true, false, false⟩ => enterReady sl .pulse4 s
  | ⟨true, true, false, true⟩ => enterReady sl .pulse4f s
  | ⟨true, true, true, false⟩ => enterReady sl .serial4 s
  | ⟨true, true, true, true⟩ => enterRejected sl .unrecognised s
  | ⟨false, false, _, _⟩ => enterEmpty sl s
  | _ => if partialDue = none then enterRejected sl .partly s else s

theorem settle_ready (m : ModuleType) : Settled sl s (.ready m) (enterReady sl m (unsettled sl s)) := by
  rw [enterReady_unsettled]
  exact settled_ready sl m s

theorem settle_rejected (why : RejectReason) :
    Settled sl s (.rejected why) (enterRejected sl why (unsettled sl s)) := by
  rw [enterRejected_unsettled]
  exact settled_rejected sl s why

theorem settle_empty : Settled sl s .empty (enterEmpty sl (unsettled sl s)) := by
  rw [enterEmpty_unsettled]
  exact settled_quiet sl s (.inl rfl)

/-- With one presence line asserted the partial timer decides (R28). -/
theorem settle_half (hs : s.slots[sl].state = .sensing) (partialDue : Option Nat) :
    Settled sl s (if partialDue = none then .rejected .partly else .sensing)
      (if partialDue = none then enterRejected sl .partly (unsettled sl s) else unsettled sl s) := by
  split
  · exact settle_rejected .partly
  · rw [unsettled_sensing hs]
    exact settled_quiet sl s (.inr rfl)

theorem settleLines_settled (hs : s.slots[sl].state = .sensing) (partialDue : Option Nat) :
    ∀ lines, Settled sl s (decoded lines partialDue) (settleLines lines partialDue sl (unsettled sl s))
  | ⟨true, true, false, false⟩ => settle_ready .pulse4
  | ⟨true, true, false, true⟩ => settle_ready .pulse4f
  | ⟨true, true, true, false⟩ => settle_ready .serial4
  | ⟨true, true, true, true⟩ => settle_rejected .unrecognised
  | ⟨false, false, _, _⟩ => settle_empty
  | ⟨true, false, _, _⟩ => settle_half hs partialDue
  | ⟨false, true, _, _⟩ => settle_half hs partialDue

/-- At the settle timer's time a slot is settled as its lines decode. -/
theorem exec_settleTimer (hs : s.slots[sl].state = .sensing) (hr : reached s s.slots[sl].settleDue = true) :
    exec (.settleTimerExpiry sl) s =
      .next (settleLines s.slots[sl].sense s.slots[sl].partialDue sl (unsettled sl s)) :=
  congrArg Host.Outcome.next (if_pos ⟨hs, hr⟩)

/-- At the partial timer's time. -/
theorem exec_partialTimer (hs : s.slots[sl].state = .sensing) (hr : reached s s.slots[sl].partialDue = true) :
    (s.slots[sl].sense.a ≠ s.slots[sl].sense.b → s.slots[sl].settleDue = none →
      exec (.partialTimerExpiry sl) s =
        .next (raise .moduleRejected (some sl.val)
          (s.setSlot sl { s.slots[sl] with state := .rejected .partly, settleDue := none, partialDue := none }))) ∧
    (s.slots[sl].sense.a = s.slots[sl].sense.b ∨ s.slots[sl].settleDue ≠ none →
      exec (.partialTimerExpiry sl) s = .next (s.setSlot sl { s.slots[sl] with partialDue := none })) := by
  have hexec : exec (.partialTimerExpiry sl) s = .next _ := congrArg Host.Outcome.next (if_pos ⟨hs, hr⟩)
  rw [hexec]
  refine ⟨fun hab hn => ?_, fun h => ?_⟩
  · refine congrArg Host.Outcome.next ((if_pos ⟨hab, hn⟩).trans ?_)
    unfold enterRejected
    rw [State.setSlot_slots, get_set_self, setSlot_setSlot]
  · exact congrArg Host.Outcome.next (if_neg fun hn => h.elim hn.1 fun hne => hne hn.2)

end

/-- Settles O24: what `Settled` says of the outcome of `exec_settleTimer`, and `exec_partialTimer`. -/
theorem settlingDecodesTheLines : Obligations.SettlingDecodesTheLines := by
  intro sl s hs
  refine ⟨fun due => exec_settleTimer_early, fun due hd hle => ?_, fun due => exec_partialTimer_early,
    fun due hd hle => exec_partialTimer hs (reached_of hd hle)⟩
  have h := settleLines_settled hs s.slots[sl].partialDue s.slots[sl].sense
  have he := exec_settleTimer hs (reached_of hd hle)
  generalize settleLines s.slots[sl].sense s.slots[sl].partialDue sl (unsettled sl s) = t at h he
  have hdecoded := h.state
  rw [← h.state] at h
  refine ⟨t, he, h.frame, h.others, h.slot, hdecoded, h.partialDue, h.unready, fun m hm => ⟨fun q => ?_, fun c => ?_⟩,
    h.raised⟩
  · have hclock : t.clock = s.clock := (congrArg State.clock h.frame :)
    rw [h.position m hm q, prepared_position]
    split
    · rw [renewed, hclock]
      split <;> rfl
    · rfl
  · obtain ⟨hin, hout⟩ := h.channel m hm c
    have hf := followsSlot_iff (prepared sl m s) c
    refine ⟨fun hn => ?_, fun ⟨hsl, hl⟩ he hm' => ?_, fun ⟨hsl, hl⟩ he hm' => ?_, fun ⟨hsl, hl⟩ he => ?_⟩
    · by_cases hsl : slotOf c = sl
      · rw [hin hsl]
        exact readied_kept (Bool.eq_false_iff.mpr fun h' => hn ⟨hsl, hf.mp h'⟩)
      · exact hout hsl
    · have hzero : ((prepared sl m s).position c).counter = 0 := by
        rw [← chanAt_of c, hsl, prepared_position, if_neg hm']
      rw [hin hsl, readied_pulse (hf.mpr hl) he hm', hzero]
      rfl
    · rw [hin hsl]
      exact readied_serial (hf.mpr hl) he hm'
    · rw [hin hsl]
      exact readied_misfit (hf.mpr hl) he

end Sys2Proof.Machine
end

section
/-! PROOF. O11: the start of the part with an image that is good, and with one that is not. -/

namespace Sys2Proof.Machine

/-! ## The activation of a channel (R4) -/

/-- The table of R4 is the model's. -/
theorem activatedState_activatesTo (s : State) (c : Chan) :
    ActivatesTo s.config.channels[c] s.slots[slotOf c].state (s.position c).counter (activatedState s c).1
      (activatedState s c).2 := by
  unfold ActivatesTo activatedState
  dsimp only
  refine ⟨fun hs hk => ?_, fun hs hk => ?_, fun hs => ⟨fun hn => ?_, fun m hm => ⟨fun he hne => ?_, fun he hm4 => ?_,
    fun he => ?_⟩⟩⟩
  · rw [hs, hk]
    exact ⟨rfl, rfl⟩
  · rw [hs, hk]
    exact ⟨rfl, rfl⟩
  · rw [hs]
    dsimp only
    split
    · next m hm => exact absurd hm (hn m)
    · exact ⟨rfl, rfl⟩
  · have hsuits : m.suits .pulse = true := bne_iff_ne.mpr hne
    rw [hs, hm, he]
    dsimp only
    rw [hsuits]
    exact ⟨rfl, rfl⟩
  · rw [hs, hm, he, hm4]
    exact ⟨rfl, rfl⟩
  · rw [hs, hm]
    dsimp only
    rw [(suits_iff _ _).mpr he]
    exact ⟨rfl, rfl⟩

/-- The record of a channel at the start of the part. -/
def startedChannel (s : State) (c : Chan) : ChannelRecord :=
  if s.config.channels[c].active then
    { s.channels[c] with
      state := (activatedState s c).1, base := (activatedState s c).2, lastReading := s.interval.plantTime }
  else s.channels[c]

/-- The position of a channel at the start of the part. -/
def startedPosition (s : State) (c : Chan) : PositionRecord :=
  if s.config.channels[c].active then renewed (s.setChannel c (startedChannel s c)) c (s.position c) else s.position c

/-- Whether a channel starts against a module of the wrong type. -/
def startsMismatched (s : State) (c : Chan) : Bool :=
  s.config.channels[c].active && decide ((activatedState s c).1 = .offline .mismatch)

/-- The event of a channel at the start of the part. -/
def startChannel (c : Chan) (s : State) : State := if s.config.channels[c].active then activate c s else s

theorem startChannel_eq (c : Chan) (s : State) :
    startChannel c s = metered c (startedChannel s c) (startedPosition s c) (startsMismatched s c) s := by
  unfold startChannel startedPosition startsMismatched
  by_cases ha : s.config.channels[c].active = true
  · simp only [ha, Bool.true_and]
    have hch : startedChannel s c = { s.channels[c] with
        state := (activatedState s c).1, base := (activatedState s c).2, lastReading := s.interval.plantTime } :=
      if_pos ha
    unfold activate metered
    simp only [renewPolling_eq, ← hch, decide_eq_true_eq]
    rfl
  · have hch : startedChannel s c = s.channels[c] := if_neg ha
    rw [if_neg ha, if_neg ha, Bool.eq_false_iff.mpr ha, Bool.false_and, metered_position, hch, setChannel_self]
    rfl

/-- The channels at the start of the part. -/
theorem started_channels (s : State) :
    MeteredUpTo (startedChannel s) (startedPosition s) (startsMismatched s) s (List.finRange 32)
      (forEach (List.finRange 32) startChannel s) := by
  refine meteredUpTo_forEach (List.nodup_finRange 32) fun done c t _ hc h => ?_
  obtain ⟨hch, hpos⟩ := h.ahead c hc
  have hslot := h.slotState_eq (slotOf c)
  have hst : activatedState t c = activatedState s c := by
    unfold activatedState
    rw [h.config_eq, hslot, hpos]
  have hrec : startedChannel t c = startedChannel s c := by
    unfold startedChannel
    rw [hst, h.config_eq, hch, h.interval_eq]
  have hrenewed : renewed (t.setChannel c (startedChannel s c)) c (s.position c) =
      renewed (s.setChannel c (startedChannel s c)) c (s.position c) := by
    refine renewed_congr (s := s.setChannel c _) (t := t.setChannel c _) hslot h.config_eq ?_ h.clock_eq _
    rw [State.setChannel_channels, State.setChannel_channels, get_set_self, get_set_self]
  have hp : startedPosition t c = startedPosition s c := by
    unfold startedPosition
    rw [hrec, hpos, h.config_eq, hrenewed]
  have hm : startsMismatched t c = startsMismatched s c := by
    unfold startsMismatched
    rw [hst, h.config_eq]
  rw [startChannel_eq, hrec, hp, hm]

/-! ## The adoption of a whole configuration (R110, R187) -/

/-- The state in which the channels of an adopted configuration are started. -/
def opened (g : Configuration) (s : State) : State :=
  { s with
    config := g
    furnaces := Vector.ofFn fun f : Furnace => startFurnace g.furnaces[f] s.interval.plantTime
    lines := Vector.ofFn fun l : Line => startLine g.lines[l]
    interval := { s.interval with
      length := g.plant.intervalLength, endTime := openEnd g.plant.intervalLength s.interval.startTime } }

theorem adoptWhole_eq (g : Configuration) (s : State) :
    adoptWhole g s = forEach (List.finRange 32) startChannel (opened g s) := rfl

/-- What a whole adopted configuration makes of the channels and the slots. -/
theorem adoptWhole_metered (g : Configuration) (s : State) :
    MeteredUpTo (startedChannel (opened g s)) (startedPosition (opened g s)) (startsMismatched (opened g s))
      (opened g s) (List.finRange 32) (adoptWhole g s) := by
  rw [adoptWhole_eq]
  exact started_channels (opened g s)

/-- What the writing of channels' records and positions leaves of an opened configuration. -/
theorem opened_frame {record : Chan → ChannelRecord} {position : Chan → PositionRecord} {mismatched : Chan → Bool}
    {g : Configuration} {s t : State} {cs : List Chan} (h : MeteredUpTo record position mismatched (opened g s) cs t) :
    t.furnaces = (opened g s).furnaces ∧ t.lines = (opened g s).lines ∧
      { t with
        config := s.config, channels := s.channels, slots := s.slots, furnaces := s.furnaces, lines := s.lines,
        interval := s.interval, alerts := s.alerts, ports := s.ports } = s :=
  ⟨(congrArg State.furnaces h.frame :), (congrArg State.lines h.frame :),
    congrArg (fun x : State => { x with
      config := s.config, furnaces := s.furnaces, lines := s.lines, interval := s.interval }) h.frame⟩

/-- A frame of a state is one of the part that starts with it. -/
theorem started_frame {s t : State} (now : Nat)
    (h : { t with
      config := s.config, channels := s.channels, slots := s.slots, furnaces := s.furnaces, lines := s.lines,
      interval := s.interval, alerts := s.alerts, ports := s.ports } = s) :
    { ({ t with phase := .running, secondDue := now } : State) with
      config := s.config, channels := s.channels, slots := s.slots, furnaces := s.furnaces, lines := s.lines,
      interval := s.interval, alerts := s.alerts, ports := s.ports } =
      { s with phase := .running, secondDue := now } :=
  congrArg (fun x : State => { x with phase := .running, secondDue := now }) h

section
variable (g : Configuration) (s : State)

theorem adoptWhole_config : (adoptWhole g s).config = g := (adoptWhole_metered g s).config_eq

theorem adoptWhole_interval :
    (adoptWhole g s).interval = { s.interval with
      length := g.plant.intervalLength, endTime := openEnd g.plant.intervalLength s.interval.startTime } :=
  (adoptWhole_metered g s).interval_eq

theorem adoptWhole_furnace (f : Furnace) :
    (adoptWhole g s).furnaces[f] = startFurnace g.furnaces[f] s.interval.plantTime := by
  obtain ⟨h, -, -⟩ := opened_frame (adoptWhole_metered g s)
  rw [h]
  exact get_ofFn _ f

theorem adoptWhole_line (l : Line) : (adoptWhole g s).lines[l] = startLine g.lines[l] := by
  obtain ⟨-, h, -⟩ := opened_frame (adoptWhole_metered g s)
  rw [h]
  exact get_ofFn _ l

theorem adoptWhole_slot (sl : Slot) :
    { (adoptWhole g s).slots[sl] with positions := s.slots[sl].positions } = s.slots[sl] :=
  (adoptWhole_metered g s).slot sl

/-- A channel that the configuration does not activate stands as it did. -/
theorem adoptWhole_inactive {c : Chan} (h : g.channels[c].active = false) :
    (adoptWhole g s).channels[c] = s.channels[c] ∧ (adoptWhole g s).position c = s.position c := by
  have ha : ¬ (opened g s).config.channels[c].active = true := Bool.eq_false_iff.mp h
  obtain ⟨hch, hpos⟩ := (adoptWhole_metered g s).written c (List.mem_finRange c)
  exact ⟨hch.trans (if_neg ha), hpos.trans (if_neg ha)⟩

/-- The state of a channel that the configuration activates. -/
theorem adoptWhole_active {c : Chan} (h : g.channels[c].active = true) :
    (adoptWhole g s).channels[c] = { s.channels[c] with
      state := (activatedState (opened g s) c).1, base := (activatedState (opened g s) c).2,
      lastReading := s.interval.plantTime } :=
  ((adoptWhole_metered g s).written c (List.mem_finRange c)).1.trans (if_pos h)

theorem adoptWhole_position {c : Chan} (h : g.channels[c].active = true) :
    (adoptWhole g s).position c = renewed (adoptWhole g s) c (s.position c) := by
  have all := adoptWhole_metered g s
  obtain ⟨hch, hpos⟩ := all.written c (List.mem_finRange c)
  refine (hpos.trans (if_pos h)).trans (renewed_congr (s := adoptWhole g s)
    (t := (opened g s).setChannel c (startedChannel (opened g s) c)) ?_ all.config_eq.symm ?_ all.clock_eq.symm _)
  · exact (all.slotState_eq (slotOf c)).symm
  · rw [hch, State.setChannel_channels, get_set_self]

theorem startsMismatched_iff (c : Chan) :
    startsMismatched (opened g s) c = true ↔
      g.channels[c].active = true ∧ (adoptWhole g s).channels[c].state = .offline .mismatch := by
  rw [startsMismatched, Bool.and_eq_true, decide_eq_true_eq]
  exact and_congr_right fun h => by rw [adoptWhole_active g s h]

theorem adoptWhole_raised :
    RaisedJust (fun src obj => src = .moduleMismatch ∧ ∃ c : Chan, obj = some c.val ∧ g.channels[c].active = true ∧
      (adoptWhole g s).channels[c].state = .offline .mismatch) s (adoptWhole g s) := by
  refine ((adoptWhole_metered g s).raised.of_same (s' := s) ⟨rfl, rfl⟩ ⟨rfl, rfl⟩).congr fun src obj => ?_
  simp only [startsMismatched_iff, List.mem_finRange, true_and]

end

/-- Raising a source has nothing to do with the phase. -/
theorem raise_started (src : AlertSource) (obj : Option Nat) (s : State) (ph : Phase) (due : Nat) :
    ({ raise src obj s with phase := ph, secondDue := due } : State) =
      raise src obj { s with phase := ph, secondDue := due } := rfl

theorem exec_configLoadDone {answered : Bool} {s : State} (hp : s.phase = .starting) :
    (s.image.good answered = false →
      exec (.configLoadDone answered) s =
        .next { raise .configLoadFail none { s with loadFailed := true } with
          phase := .running, secondDue := s.clock + 1000 }) ∧
    (s.image.good answered = true →
      exec (.configLoadDone answered) s =
        .next { adoptWhole s.image.body.configuration s with phase := .running, secondDue := s.clock + 1000 }) := by
  have hexec : exec (.configLoadDone answered) s =
      .next { loadedState answered s with phase := .running, secondDue := s.clock + 1000 } :=
    congrArg Host.Outcome.next (if_pos hp)
  rw [hexec]
  refine ⟨fun hg => ?_, fun hg => ?_⟩
  · have hl : loadedState answered s = raise .configLoadFail none { s with loadFailed := true } :=
      if_neg (by rw [hg]; exact Bool.false_ne_true)
    rw [hl]
  · have hl : loadedState answered s = adoptWhole s.image.body.configuration s := if_pos hg
    rw [hl]

/-- The opening values of a furnace are those of the image. -/
theorem configuration_furnace (b : ImageBody) (f : Furnace) :
    b.configuration.furnaces[f] =
      { b.config.furnaces[f] with openingMass := b.inventories[f].1, openingCullet := b.inventories[f].2 } :=
  get_ofFn _ f

theorem startFurnace_enabled {g : FurnaceConfig} (h : g.enabled = true) (now : Nat) :
    startFurnace g now =
      { state := some .hold, lastSerial := 0, lastCullet := g.openingCullet,
        queue := if g.openingMass = 0 then [] else
          [{ serial := 0, arrival := now, originalMass := g.openingMass,
             originalCullet := g.openingMass * g.openingCullet / 1000, remainingMass := g.openingMass,
             remainingCullet := g.openingMass * g.openingCullet / 1000 }],
        inventoryMass := g.openingMass, inventoryCullet := g.openingMass * g.openingCullet / 1000 } :=
  if_pos h

theorem startFurnace_disabled {g : FurnaceConfig} (h : g.enabled = false) (now : Nat) :
    startFurnace g now =
      { state := none, lastSerial := 0, lastCullet := g.openingCullet, queue := [], inventoryMass := 0,
        inventoryCullet := 0 } :=
  if_neg (by rw [h]; exact Bool.false_ne_true)

/-- Settles O11: `exec_configLoadDone` with what `adoptWhole` makes of each block. -/
theorem configLoadDoneStartsThePart : Obligations.ConfigLoadDoneStartsThePart := by
  intro answered s hp
  obtain ⟨hbad, hgood⟩ := exec_configLoadDone (answered := answered) hp
  refine ⟨fun hg => (hbad hg).trans (congrArg Host.Outcome.next (raise_started ..)), fun hg => ⟨_, hgood hg, ?_⟩⟩
  have hconfig := adoptWhole_config s.image.body.configuration s
  have hfurnace := adoptWhole_furnace s.image.body.configuration s
  have hline := adoptWhole_line s.image.body.configuration s
  have hinterval := adoptWhole_interval s.image.body.configuration s
  have hraised := adoptWhole_raised s.image.body.configuration s
  have hslot := adoptWhole_slot s.image.body.configuration s
  have hinactive (c : Chan) := adoptWhole_inactive s.image.body.configuration s (c := c)
  have hactive (c : Chan) := adoptWhole_active s.image.body.configuration s (c := c)
  have hposition (c : Chan) := adoptWhole_position s.image.body.configuration s (c := c)
  obtain ⟨-, -, hframe⟩ := opened_frame (adoptWhole_metered s.image.body.configuration s)
  generalize adoptWhole s.image.body.configuration s = t at *
  rw [← hconfig] at hfurnace hline hinterval hraised hinactive hactive hposition
  refine ⟨started_frame _ hframe, hconfig, fun f => ⟨?_, fun hf => ?_, fun hf => ?_⟩, hline, hinterval,
    hraised.of_same ⟨rfl, rfl⟩ ⟨rfl, rfl⟩, hslot,
    fun c => ⟨hinactive c, fun ha => ⟨⟨_, _, ?_, hactive c ha⟩, hposition c ha⟩⟩⟩
  · dsimp only
    rw [hconfig, configuration_furnace]
  · exact (hfurnace f).trans (startFurnace_disabled hf _)
  · exact (hfurnace f).trans (startFurnace_enabled hf _)
  · rw [hconfig]
    exact activatedState_activatesTo (opened s.image.body.configuration s) c

end Sys2Proof.Machine
end

section
/-! PROOF. O26: the first position of a slot whose poll is due, the end of a poll in flight, and the readings and failed
polls that it gives. -/

namespace Sys2Proof.Machine

/-! ## The position that is polled (R34, R35) -/

/-- Whether a position is pollable and its poll is due. -/
def positionDue (sl : Slot) (s : State) (q : Position) : Bool :=
  pollable s (chanAt sl q) && reached s s.slots[sl].positions[q].nextDue

theorem positionDue_iff (sl : Slot) (s : State) (q : Position) :
    positionDue sl s q = true ↔
      ∃ due, pollable s (chanAt sl q) = true ∧ s.slots[sl].positions[q].nextDue = some due ∧ due ≤ s.clock := by
  rw [positionDue, Bool.and_eq_true, reached_iff]
  exact ⟨fun ⟨hp, t, ht, hle⟩ => ⟨t, hp, ht, hle⟩, fun ⟨t, hp, ht, hle⟩ => ⟨hp, t, ht, hle⟩⟩

theorem positionDue_false_iff (sl : Slot) (s : State) (q : Position) :
    positionDue sl s q = false ↔
      (pollable s (chanAt sl q) = true → ∀ due, s.slots[sl].positions[q].nextDue = some due → s.clock < due) := by
  rw [← Bool.not_eq_true, positionDue_iff]
  exact ⟨fun h hp t ht => Nat.not_le.mp fun hle => h ⟨t, hp, ht, hle⟩,
    fun h ⟨t, hp, ht, hle⟩ => Nat.not_le.mpr (h hp t ht) hle⟩

/-- The search among the due times is a search among the positions. -/
theorem firstDue_eq (sl : Slot) (s : State) :
    firstDue sl s = ((List.finRange 4).find? (positionDue sl s)).map (chanAt sl) := by
  have hdue (q : Position) :
      ((if pollable s (chanAt sl q) = true then (s.position (chanAt sl q)).nextDue.map fun t => (chanAt sl q, t)
        else none).any fun ct => decide (ct.2 ≤ s.clock)) = positionDue sl s q := by
    rw [positionDue, reached, position_chanAt]
    cases pollable s (chanAt sl q) with
    | false => rfl
    | true => cases s.slots[sl].positions[q].nextDue <;> rfl
  unfold firstDue dueTimes channelsOf
  rw [List.find?_filterMap, List.find?_map]
  simp only [Function.comp_def, hdue]
  cases h : (List.finRange 4).find? (positionDue sl s) with
  | none => rfl
  | some q =>
    obtain ⟨due, hp, ht, -⟩ := (positionDue_iff sl s q).mp (List.find?_some h)
    simp [hp, position_chanAt, ht, -Fin.getElem_fin]

/-- R35: the lowest-numbered position whose poll is due is the one found. -/
theorem firstDue_some {sl : Slot} {s : State} {q : Position} (hq : positionDue sl s q = true)
    (first : ∀ q' : Position, q' < q → positionDue sl s q' = false) : firstDue sl s = some (chanAt sl q) := by
  have hfind : (List.finRange 4).find? (positionDue sl s) = some q := by
    rw [List.find?_eq_findSome?_guard]
    refine findSome?_of_first _ q (by simp [hq]) _ (List.pairwise_lt_finRange 4) (List.mem_finRange q) fun q' hlt => ?_
    simp [first q' hlt]
  rw [firstDue_eq, hfind]
  rfl

theorem firstDue_none_iff (sl : Slot) (s : State) :
    firstDue sl s = none ↔ ∀ q : Position, positionDue sl s q = false := by
  simp [firstDue_eq]

/-- The slot record with a poll of a position started. -/
def pollStarted (sl : Slot) (q : Position) (s : State) : SlotRecord :=
  let g := s.config.channels[chanAt sl q]
  { s.slots[sl] with
    poll := some { position := q, address := g.address, limit := s.clock + 200 },
    polls := s.slots[sl].polls + 1,
    positions := s.slots[sl].positions.set q
      { s.slots[sl].positions[q] with nextDue := some (s.clock + 1000 * g.pollPeriod) } }

theorem exec_pollStart_some {sl : Slot} {q : Position} {s : State} (hp : s.slots[sl].poll = none)
    (hq : firstDue sl s = some (chanAt sl q)) :
    exec (.pollStart sl) s = .next (s.setSlot sl (pollStarted sl q s)) := by
  refine congrArg Host.Outcome.next ?_
  rw [hp, hq]
  simp only [State.setPosition, slotOf_chanAt, positionOf_chanAt, State.setSlot_slots, get_set_self, setSlot_setSlot,
    position_chanAt]
  rfl

theorem exec_pollStart_none {sl : Slot} {s : State} (h : s.slots[sl].poll ≠ none ∨ firstDue sl s = none) :
    exec (.pollStart sl) s = .next s := by
  refine congrArg Host.Outcome.next ?_
  split
  · next hp hq =>
    rcases h with h | h
    · exact absurd hp h
    · exact absurd (hq.symm.trans h) nofun
  · rfl

/-! ## TOTAL readings (R13, R14) -/

theorem takeTotal_unbased {c : Chan} {s : State} (hb : s.channels[c].base = none) (v : Nat) (tag : Option Consumer) :
    (takeTotal c v tag s).after = acceptReading c (some v) s := by
  rw [takeTotal, hb]

theorem takeTotal_classed {c : Chan} {s : State} {b v u b' : Nat} {o : ReadingOutcome}
    (hb : s.channels[c].base = some b)
    (h : ClassedAs s.config.channels[c].modulus (readingLimit s c) b v o u b') (tag : Option Consumer) :
    (takeTotal c v tag s).after = (handOn c u tag (raiseReading c o (acceptReading c (some b') s))).1 := by
  obtain ⟨hclass, hbase⟩ := classify_of_classedAs h
  rw [takeTotal, hb]
  simp only [hclass, hbase]
  rfl

/-! ## The end of the poll in flight (R36, R37) -/

/-- The state in which a slot's poll of a position has ended with a number of failed polls. -/
def pollEnded (sl : Slot) (q : Position) (n : Nat) (s : State) : State :=
  s.setSlot sl { s.slots[sl] with
    poll := none,
    positions := s.slots[sl].positions.set q { s.slots[sl].positions[q] with failed := n } }

/-- The model ends a poll and counts in two writes to the slot. -/
theorem endPoll_failed (sl : Slot) (q : Position) (n : Nat) (s : State) :
    (endPoll sl s).setPosition (chanAt sl q) { (endPoll sl s).position (chanAt sl q) with failed := n } =
      pollEnded sl q n s := by
  simp only [endPoll, State.setPosition, slotOf_chanAt, positionOf_chanAt, State.setSlot_slots, get_set_self,
    setSlot_setSlot, position_chanAt]
  rfl

/-- The failed polls of a position after one more (R37). -/
def failedOnce (sl : Slot) (q : Position) (s : State) : Nat := min 3 (s.slots[sl].positions[q].failed + 1)

/-- What a failed poll of a slot's position makes of the state (R37). -/
structure PollFailed (sl : Slot) (q : Position) (s t : State) : Prop where
  counted : failedOnce sl q s ≠ 3 ∨
      (s.channels[chanAt sl q].state ≠ .basing ∧ s.channels[chanAt sl q].state ≠ .live) →
    t = pollEnded sl q (failedOnce sl q s) s
  stale : failedOnce sl q s = 3 → s.channels[chanAt sl q].state = .basing ∨ s.channels[chanAt sl q].state = .live →
    ∃ a, RunAborted (chanAt sl q) (pollEnded sl q (failedOnce sl q s) s) a ∧
      t = raise .channelStale (some (chanAt sl q).val)
        (a.setChannel (chanAt sl q) { released s (chanAt sl q) with state := .stale })

theorem failPoll_eq (sl : Slot) (q : Position) (s : State) :
    failPoll (chanAt sl q) (endPoll sl s) =
      if failedOnce sl q s = 3 ∧
          (s.channels[chanAt sl q].state = .basing ∨ s.channels[chanAt sl q].state = .live) then
        enterStale (chanAt sl q) (pollEnded sl q (failedOnce sl q s) s)
      else pollEnded sl q (failedOnce sl q s) s := by
  have hn : min 3 (((endPoll sl s).position (chanAt sl q)).failed + 1) = failedOnce sl q s := by
    rw [position_chanAt, endPoll, State.setSlot_slots, get_set_self]
    rfl
  unfold failPoll
  simp only [hn, endPoll_failed]
  rfl

theorem failPoll_failed (sl : Slot) (q : Position) (s : State) :
    PollFailed sl q s (failPoll (chanAt sl q) (endPoll sl s)) := by
  rw [failPoll_eq]
  refine ⟨fun h => ?_, fun h3 hs => ⟨_, abortRun_spec .., ?_⟩⟩
  · rw [if_neg]
    rintro ⟨h3, hs⟩
    rcases h with h | ⟨hb, hl⟩
    · exact h h3
    · exact hs.elim hb hl
  · rw [if_pos ⟨h3, hs⟩, enterStale_eq]
    rfl

/-! ## Replies and expiries at a slot -/

section
variable {sl : Slot} {s : State}

theorem exec_pollReply_unpolled (hp : s.slots[sl].poll = none) (n : Nat) (check : Bool) (address value : Nat) :
    exec (.pollReply ⟨sl, n⟩ check address value) s = .next s := by
  refine congrArg Host.Outcome.next ?_
  dsimp only
  rw [hp]

theorem exec_replyLimitExpiry_unpolled (hp : s.slots[sl].poll = none) : exec (.replyLimitExpiry sl) s = .next s := by
  refine congrArg Host.Outcome.next ?_
  rw [hp]

variable {v : Poll} (hp : s.slots[sl].poll = some v)
include hp

/-- A reply while a poll is in flight. -/
theorem exec_pollReply_polled (m : Nat) (check : Bool) (address value : Nat) :
    exec (.pollReply ⟨sl, m⟩ check address value) s =
      .next (
        if m = s.slots[sl].polls ∧ s.clock ≤ v.limit then
          if check = true ∧ address = v.address ∧ value < s.config.channels[chanAt sl v.position].modulus then
            (takeTotal (chanAt sl v.position) value none (pollEnded sl v.position 0 s)).after
          else failPoll (chanAt sl v.position) (endPoll sl s)
        else s) := by
  refine congrArg Host.Outcome.next ?_
  dsimp only
  rw [hp, ← endPoll_failed]
  rfl

theorem exec_pollReply_discarded {m : Nat} (h : m ≠ s.slots[sl].polls ∨ v.limit < s.clock) (check : Bool)
    (address value : Nat) : exec (.pollReply ⟨sl, m⟩ check address value) s = .next s := by
  rw [exec_pollReply_polled hp, if_neg]
  rintro ⟨hm, hc⟩
  exact h.elim (fun h => h hm) fun h => Nat.not_le.mpr h hc

theorem exec_pollReply_good (hc : s.clock ≤ v.limit) {value : Nat}
    (hv : value < s.config.channels[chanAt sl v.position].modulus) :
    exec (.pollReply ⟨sl, s.slots[sl].polls⟩ true v.address value) s =
      .next (takeTotal (chanAt sl v.position) value none (pollEnded sl v.position 0 s)).after := by
  rw [exec_pollReply_polled hp, if_pos ⟨rfl, hc⟩, if_pos ⟨rfl, rfl, hv⟩]

theorem exec_pollReply_bad (hc : s.clock ≤ v.limit) {check : Bool} {address value : Nat}
    (h : check = false ∨ address ≠ v.address ∨ s.config.channels[chanAt sl v.position].modulus ≤ value) :
    exec (.pollReply ⟨sl, s.slots[sl].polls⟩ check address value) s =
      .next (failPoll (chanAt sl v.position) (endPoll sl s)) := by
  rw [exec_pollReply_polled hp, if_pos ⟨rfl, hc⟩, if_neg]
  rintro ⟨hk, ha, hv⟩
  rcases h with h | h | h
  · exact absurd (hk.symm.trans h) nofun
  · exact h ha
  · exact absurd hv (Nat.not_lt.mpr h)

theorem exec_replyLimitExpiry_early (hc : s.clock < v.limit) : exec (.replyLimitExpiry sl) s = .next s := by
  refine congrArg Host.Outcome.next ?_
  rw [hp]
  exact if_neg (Nat.not_le.mpr hc)

theorem exec_replyLimitExpiry_failed (hc : v.limit ≤ s.clock) :
    exec (.replyLimitExpiry sl) s = .next (failPoll (chanAt sl v.position) (endPoll sl s)) := by
  refine congrArg Host.Outcome.next ?_
  rw [hp]
  exact if_pos hc

end

/-- Settles O26: the first due position by `firstDue_some`, and the end of a poll as a reading on `pollEnded` or by
`failPoll_failed`. -/
theorem pollsRunOneAtATime : Obligations.PollsRunOneAtATime := by
  refine ⟨fun sl q s hp hq first => ?_, fun sl s => ⟨fun h => ?_, fun hp => ⟨?_, fun n check address value => ?_⟩⟩,
    fun sl v s hp => ?_⟩
  · exact exec_pollStart_some hp
      (firstDue_some ((positionDue_iff sl s q).mpr hq) fun q' hlt => (positionDue_false_iff sl s q').mpr (first q' hlt))
  · exact exec_pollStart_none
      (h.imp_right fun h => (firstDue_none_iff sl s).mpr fun q => (positionDue_false_iff sl s q).mpr (h q))
  · exact exec_replyLimitExpiry_unpolled hp
  · exact exec_pollReply_unpolled hp n check address value
  · have fails := failPoll_failed sl v.position s
    refine ⟨fun m check address value h => exec_pollReply_discarded hp h check address value, fun hc =>
      ⟨fun value hv hb => ?_, fun value b o u b' hv hb h => ?_, fun check address value h => ?_⟩,
      exec_replyLimitExpiry_early hp, fun hc => ?_⟩
    · have hb' : (pollEnded sl v.position 0 s).channels[chanAt sl v.position].base = none := hb
      rw [exec_pollReply_good hp hc hv, takeTotal_unbased hb']
      rfl
    · have hb' : (pollEnded sl v.position 0 s).channels[chanAt sl v.position].base = some b := hb
      rw [exec_pollReply_good hp hc hv, takeTotal_classed hb' h]
      rfl
    · exact ⟨_, exec_pollReply_bad hp hc h, fails.counted, fails.stale⟩
    · exact ⟨_, exec_replyLimitExpiry_failed hp hc, fails.counted, fails.stale⟩

end Sys2Proof.Machine
end

section
/-! PROOF. O2: what is due on an idle part. -/

namespace Sys2Proof.Machine

/-! ## The events of a range -/

theorem eventsOf_eq_nil {n : Nat} {due : Fin n → Bool} {event : Fin n → Instr} :
    eventsOf due event = [] ↔ ∀ i, due i = false := by
  simp [eventsOf]

theorem eventsOf_asRequest {n : Nat} {event : Fin n → Instr} (h : ∀ i, (event i).asRequest = none)
    (due : Fin n → Bool) : ∀ c ∈ eventsOf due event, c.asRequest = none := by
  intro c hc
  obtain ⟨i, -, rfl⟩ := List.mem_map.mp hc
  exact h i

theorem guarded_eq_nil {p : Prop} [Decidable p] {c : Instr} : (if p then [c] else []) = [] ↔ ¬ p := by
  split <;> simp [*]

theorem guarded_asRequest {p : Prop} [Decidable p] {c : Instr} (h : c.asRequest = none) :
    ∀ d ∈ (if p then [c] else []), d.asRequest = none := by
  split <;> simp [h]

/-! ## What comes of itself is no request -/

theorem plantEvents_asRequest (s : State) : ∀ c ∈ plantEvents s, c.asRequest = none := by
  unfold plantEvents
  refine List.forall_mem_append.mpr ⟨guarded_asRequest ?_, guarded_asRequest rfl⟩
  split <;> rfl

theorem closeEvents_asRequest (s : State) : ∀ c ∈ closeEvents s, c.asRequest = none := by
  unfold closeEvents
  split
  · exact List.forall_mem_nil _
  · exact List.forall_mem_append.mpr
      ⟨eventsOf_asRequest (fun _ => rfl) _, List.forall_mem_singleton.mpr rfl⟩

theorem dueEvents_asRequest (s : State) : ∀ c ∈ dueEvents s, c.asRequest = none := by
  unfold dueEvents
  simp only [List.forall_mem_append]
  refine ⟨⟨⟨⟨⟨⟨⟨⟨⟨⟨⟨⟨plantEvents_asRequest s, closeEvents_asRequest s⟩, ?settle⟩, ?part⟩, ?sample⟩, ?reply⟩, ?start⟩,
    ?stale⟩, ?prove⟩, ?hold⟩, ?gap⟩, ?lock⟩, ?save⟩
  case sample | prove | save => exact guarded_asRequest rfl
  all_goals exact eventsOf_asRequest (fun _ => rfl) _

/-! ## What has not come with nothing due -/

theorem plantEvents_nil {s : State} (h : plantEvents s = []) :
    (s.phase = .running → s.clock < s.secondDue) ∧
    ∀ e, s.interval.endTime = some e → s.interval.waiting = .none → s.interval.plantTime < e := by
  obtain ⟨hsecond, hexpiry⟩ := List.append_eq_nil_iff.mp h
  rw [guarded_eq_nil] at hsecond hexpiry
  refine ⟨fun hr => Nat.not_le.mp fun hle => hsecond ⟨hr, hle⟩,
    fun e he hw => Nat.not_le.mp fun hle => hexpiry ⟨?_, hw⟩⟩
  rw [intervalExpired_eq he]
  exact decide_eq_true hle

theorem closeEvents_nil {s : State} (h : closeEvents s = []) : s.interval.closing = none := by
  unfold closeEvents at h
  split at h
  · next hc => exact hc
  · exact absurd (List.append_eq_nil_iff.mp h).2 (List.cons_ne_nil _ _)

theorem lt_of_not_reached {s : State} {o : Option Nat} (h : reached s o = false) {t : Nat} (ht : o = some t) :
    s.clock < t :=
  Nat.not_le.mp fun hle => absurd ((reached_of ht hle).symm.trans h) nofun

theorem pollDue_false {s : State} {sl : Slot} (h : pollDue s sl = false) (hp : s.slots[sl].poll = none) (q : Position)
    (hq : pollable s (chanAt sl q) = true) {t : Nat} (ht : s.slots[sl].positions[q].nextDue = some t) :
    s.clock < t := by
  have hnone : firstDue sl s = none := by simpa [pollDue, hp, -Fin.getElem_fin] using h
  exact (positionDue_false_iff sl s q).mp ((firstDue_none_iff sl s).mp hnone q) hq t ht

theorem staleTimeOut_false {s : State} {c : Chan} (h : staleTimeOut s c = false)
    (ha : s.config.channels[c].active = true) (hp : s.config.channels[c].source = .port)
    (hs : s.channels[c].state = .basing ∨ s.channels[c].state = .live) :
    s.interval.plantTime < s.channels[c].lastReading + s.config.channels[c].staleTime :=
  Nat.not_le.mp fun hle => absurd ((staleTimeOut_true ha hp hs hle).symm.trans h) nofun

/-! ## The idle step -/

theorem step_idle {s : State} (h : s.pending = []) : step s = .next (idle s) := by
  unfold step
  rw [h]

theorem idle_due {s : State} {c : Instr} {rest : List Instr} (h : dueEvents s = c :: rest) :
    idle s = { s with pending := [c] } := by
  unfold idle
  rw [h]

theorem idle_none {s : State} (h : dueEvents s = []) : idle s = { s with clock := s.clock + 1 } := by
  unfold idle
  rw [h]

/-- Settles O2: the idle step by `idle`, and the times not reached from the empty list of each kind of event. -/
theorem idleStepBringsTheDueEvent : Obligations.IdleStepBringsTheDueEvent := by
  refine ⟨fun s hs => ⟨fun c rest h => ?_, fun h => ?_⟩, fun s h => ?_, dueEvents_asRequest⟩
  · rw [step_idle hs, idle_due h]
  · rw [step_idle hs, idle_none h]
  · simp only [dueEvents, List.append_eq_nil_iff, eventsOf_eq_nil, guarded_eq_nil, Bool.not_eq_true] at h
    obtain ⟨⟨⟨⟨⟨⟨⟨⟨⟨⟨⟨⟨plant, close⟩, settle⟩, part⟩, sample⟩, reply⟩, start⟩, stale⟩, prove⟩, hold⟩, gap⟩,
      lock⟩, save⟩ := h
    obtain ⟨second, expiry⟩ := plantEvents_nil plant
    refine ⟨fun sl => ⟨fun t => lt_of_not_reached (settle sl), fun t => lt_of_not_reached (part sl), fun q hq => ?_,
      fun hp q hq t => pollDue_false (start sl) hp q hq⟩, fun l t => lt_of_not_reached (hold l), fun c p t w hr => ?_,
      fun p got last hr => ?_, fun r k hk => ?_, fun v hv => ?_, Nat.not_le.mp sample, second,
      closeEvents_nil close, expiry, fun c => staleTimeOut_false (stale c)⟩
    · exact lt_of_not_reached (reply sl) (by rw [hq]; rfl)
    · exact lt_of_not_reached prove (by rw [proveDue, hr])
    · exact lt_of_not_reached (gap p) (by rw [gapDue, hr])
    · exact lt_of_not_reached (lock r) (by rw [lockDue, hk]; rfl)
    · exact lt_of_not_reached save (by rw [hv]; rfl)

end Sys2Proof.Machine
end

section
/-! PROOF. O27: the split rule. -/

namespace Sys2Proof.Machine

/-! ## The earliest of the largest bases -/

theorem ne_nil_of_sum_pos {l : List Nat} (h : 0 < l.sum) : l ≠ [] := by
  rintro rfl
  exact absurd h (Nat.lt_irrefl 0)

theorem le_foldr_max {l : List Nat} {b : Nat} (h : b ∈ l) : b ≤ l.foldr max 0 := by
  induction l with
  | nil => exact absurd h List.not_mem_nil
  | cons x xs ih =>
    rcases List.mem_cons.mp h with rfl | h
    · exact Nat.le_max_left ..
    · exact Nat.le_trans (ih h) (Nat.le_max_right ..)

theorem foldr_max_mem {l : List Nat} (h : l ≠ []) : l.foldr max 0 ∈ l := by
  induction l with
  | nil => exact absurd rfl h
  | cons x xs ih =>
    rw [List.foldr_cons]
    cases xs with
    | nil => simp
    | cons y ys =>
      rcases Nat.le_total x ((y :: ys).foldr max 0) with hx | hx
      · rw [Nat.max_eq_right hx]
        exact List.mem_cons_of_mem x (ih (List.cons_ne_nil y ys))
      · rw [Nat.max_eq_left hx]
        exact List.mem_cons_self ..

section
variable {bases : List Nat}

theorem largestAt_lt (h : bases ≠ []) : largestAt bases < bases.length :=
  List.findIdx_lt_length_of_exists ⟨_, foldr_max_mem h, beq_self_eq_true _⟩

theorem getElem_largestAt (h : bases ≠ []) : bases[largestAt bases]'(largestAt_lt h) = bases.foldr max 0 :=
  beq_iff_eq.mp (List.findIdx_getElem (w := largestAt_lt h))

theorem getElem_le_largest (h : bases ≠ []) {i : Nat} (hi : i < bases.length) :
    bases[i] ≤ bases[largestAt bases]'(largestAt_lt h) := by
  rw [getElem_largestAt h]
  exact le_foldr_max (List.getElem_mem hi)

theorem getElem_lt_largest (h : bases ≠ []) {i : Nat} (hi : i < largestAt bases) :
    bases[i]'(Nat.lt_trans hi (largestAt_lt h)) < bases[largestAt bases]'(largestAt_lt h) := by
  have hl := Nat.lt_trans hi (largestAt_lt h)
  refine Nat.lt_of_le_of_ne (getElem_le_largest h hl) fun he => ?_
  rw [getElem_largestAt h] at he
  exact absurd (beq_iff_eq.mpr he) (Bool.eq_false_iff.mp (List.not_of_lt_findIdx hi))

end

/-! ## The floors and the residue -/

/-- The floors of the shares of a quantity, before the residue (R46). -/
def floors (q : Nat) (bases : List Nat) : List Nat := bases.map fun b => q * b / bases.sum

theorem split_eq (q : Nat) (bases : List Nat) :
    split q bases = (floors q bases).modify (largestAt bases) (· + (q - (floors q bases).sum)) := rfl

@[simp] theorem floors_length (q : Nat) (bases : List Nat) : (floors q bases).length = bases.length := List.length_map ..

@[simp] theorem split_length (q : Nat) (bases : List Nat) : (split q bases).length = bases.length := by
  rw [split_eq, List.length_modify, floors_length]

theorem sum_floors_mul_le (q d : Nat) (l : List Nat) : (l.map fun b => q * b / d).sum * d ≤ q * l.sum := by
  induction l with
  | nil => simp
  | cons b l ih =>
    rw [List.map_cons, List.sum_cons, List.sum_cons, Nat.add_mul, Nat.mul_add]
    exact Nat.add_le_add (Nat.div_mul_le_self ..) ih

theorem mul_sum_lt_floors (q : Nat) {d : Nat} (hd : 0 < d) {l : List Nat} (hl : l ≠ []) :
    q * l.sum < ((l.map fun b => q * b / d).sum + l.length) * d := by
  induction l with
  | nil => exact absurd rfl hl
  | cons b l ih =>
    have hb : q * b < (q * b / d + 1) * d := Nat.lt_div_mul_add hd |>.trans_eq (by ring)
    rw [List.map_cons, List.sum_cons, List.sum_cons, List.length_cons, Nat.mul_add]
    by_cases hn : l = []
    · subst hn
      simpa using hb
    · linarith [ih hn]

theorem floors_sum_le (q : Nat) (bases : List Nat) : (floors q bases).sum ≤ q := by
  rcases Nat.eq_zero_or_pos bases.sum with h0 | hs
  · simp [floors, h0]
  · exact Nat.le_of_mul_le_mul_right (sum_floors_mul_le q bases.sum bases) hs

theorem residue_lt (q : Nat) {bases : List Nat} (hs : 0 < bases.sum) : q - (floors q bases).sum < bases.length := by
  have hn := ne_nil_of_sum_pos hs
  have := Nat.lt_of_mul_lt_mul_right (mul_sum_lt_floors q hs hn)
  have hle := floors_sum_le q bases
  unfold floors at *
  omega

theorem sum_modify_add {l : List Nat} {i : Nat} (hi : i < l.length) (x : Nat) : (l.modify i (· + x)).sum = l.sum + x := by
  induction l generalizing i with
  | nil => exact absurd hi (Nat.not_lt_zero i)
  | cons a l ih =>
    cases i with
    | zero => simp; omega
    | succ i =>
      rw [List.modify_succ_cons, List.sum_cons, List.sum_cons, ih (Nat.lt_of_succ_lt_succ hi), Nat.add_assoc]

/-- The parts of a split sum to the whole, even where every base is 0 (R46). -/
theorem split_sum (q : Nat) {bases : List Nat} (h : bases ≠ []) : (split q bases).sum = q := by
  rw [split_eq, sum_modify_add (by rw [floors_length]; exact largestAt_lt h)]
  exact Nat.add_sub_of_le (floors_sum_le q bases)

theorem split_getElem (q : Nat) {bases : List Nat} {i : Nat} (hi : i < (split q bases).length) :
    (split q bases)[i] =
      q * bases[i]'(split_length q bases ▸ hi) / bases.sum +
        if largestAt bases = i then q - (floors q bases).sum else 0 := by
  simp only [split_eq, List.getElem_modify, floors, List.getElem_map]
  split <;> simp

theorem split_getD (q : Nat) {bases : List Nat} {i : Nat} (hi : i < bases.length) :
    (split q bases).getD i 0 =
      q * bases.getD i 0 / bases.sum + if largestAt bases = i then q - (floors q bases).sum else 0 := by
  have hs : i < (split q bases).length := by rwa [split_length]
  rw [List.getD_eq_getElem _ _ hs, List.getD_eq_getElem _ _ hi, split_getElem]

/-- A base of 0 gets nothing of a split whose bases do not all lie at 0 (R46). -/
theorem split_getD_zero (q : Nat) {bases : List Nat} (hs : 0 < bases.sum) {i : Nat} (h : bases.getD i 0 = 0) :
    (split q bases).getD i 0 = 0 := by
  have hn := ne_nil_of_sum_pos hs
  by_cases hi : i < bases.length
  · have hl : largestAt bases ≠ i := by
      rintro rfl
      rw [List.getD_eq_getElem _ _ hi] at h
      refine absurd (List.sum_eq_zero fun b hb => ?_) (Nat.ne_of_gt hs)
      obtain ⟨j, hj, rfl⟩ := List.getElem_of_mem hb
      have := getElem_le_largest hn hj
      omega
    rw [split_getD q hi, h, if_neg hl, Nat.mul_zero, Nat.zero_div]
  · exact List.getD_eq_default _ _ (by rw [split_length]; omega)

theorem split_zero_getD {bases : List Nat} (h : bases ≠ []) (i : Nat) : (split 0 bases).getD i 0 = 0 := by
  by_cases hi : i < (split 0 bases).length
  · rw [List.getD_eq_getElem _ _ hi]
    exact List.sum_eq_zero_iff.mp (split_sum 0 h) _ (List.getElem_mem hi)
  · exact List.getD_eq_default _ _ (Nat.le_of_not_lt hi)

/-- Settles O27, with the place of the earliest largest base. -/
theorem splitGivesWholeQuantity : Obligations.SplitGivesWholeQuantity := by
  intro q bases hs
  have hn := ne_nil_of_sum_pos hs
  have hm := largestAt_lt hn
  refine ⟨split_length q bases, split_sum q hn, largestAt bases, hm, fun i hi => ?_, fun i hi => ?_, fun i hi hne => ?_,
    ?_, residue_lt q hs, fun i _ => split_getD_zero q hs, ?_⟩
  · rw [List.getD_eq_getElem _ _ hi, List.getD_eq_getElem _ _ hm]
    exact getElem_le_largest hn hi
  · rw [List.getD_eq_getElem _ _ (hi.trans hm), List.getD_eq_getElem _ _ hm]
    exact getElem_lt_largest hn hi
  · rw [split_getD q hi, if_neg hne.symm, Nat.add_zero]
  · rw [split_getD q hm, if_pos rfl]
    rfl
  · rintro rfl
    exact split_zero_getD hn

end Sys2Proof.Machine
end

section
/-! PROOF. O28 and O29: what bookings leave of the energy of a bank, the placing of an increment, and settlements. -/

namespace Sys2Proof.Machine

/-! ## One accumulator after a booking that was not held (R41) -/

/-- A booking after which the saturated mark is clear was made on a clear mark, and was not held. -/
theorem Bank.add_clear {b : Bank} {a : Account} {x : Nat} (h : (b.add a x).saturated = false) :
    b.saturated = false ∧ satOver bankLimit (b.get a) x = false := by
  rw [Bank.add_saturated, Bool.or_eq_false_iff] at h
  exact h

theorem Bank.get_add_clear {b : Bank} {a : Account} {x : Nat} (h : (b.add a x).saturated = false) (a' : Account) :
    (b.add a x).get a' = b.get a' + if a = a' then x else 0 := by
  rw [Bank.get_add]
  split
  · next he => rw [← he, satAdd_of_not_over (Bank.add_clear h).2]
  · rfl

/-! ## The energy of a bank (R42) -/

/-- The accounts whose sum is the energy of a bank (R42). -/
def energyAccounts : List Account :=
  ((List.finRange 4).flatMap fun f => [.furnace f .producing, .furnace f .standby]) ++
    ((List.finRange 12).flatMap fun l => [.line l .producing, .line l .standby]) ++ [.common]

theorem energyAccounts_nodup : energyAccounts.Nodup := by decide

theorem energyAccount_mem (c : Consumer) (k : BookingClass) : energyAccount c k ∈ energyAccounts := by
  cases c <;> cases k <;> simp [energyAccount, energyAccounts]

theorem sum_map_flatMap_pair {α β : Type} (l : List α) (x y : α → β) (g : β → Nat) :
    ((l.flatMap fun a => [x a, y a]).map g).sum = (l.map fun a => g (x a) + g (y a)).sum := by
  induction l with
  | nil => rfl
  | cons a l ih => simp [List.flatMap_cons, ih, Nat.add_assoc]

theorem Bank.energy_eq (b : Bank) : b.energy = (energyAccounts.map b.get).sum := by
  rw [energyAccounts, List.map_append, List.map_append, List.sum_append, List.sum_append, sum_map_flatMap_pair,
    sum_map_flatMap_pair]
  rfl

theorem Bank.energy_congr {b b' : Bank} (h : ∀ a ∈ energyAccounts, b'.get a = b.get a) : b'.energy = b.energy := by
  rw [Bank.energy_eq, Bank.energy_eq, List.map_congr_left h]

/-- A sum over things that differ in one of them. -/
theorem sum_map_add_at {α : Type} [DecidableEq α] {l : List α} (hn : l.Nodup) {f g : α → Nat} {i : α} {x : Nat}
    (h : ∀ j, g j = f j + if i = j then x else 0) : (l.map g).sum = (l.map f).sum + if i ∈ l then x else 0 := by
  induction l with
  | nil => simp
  | cons a l ih =>
    obtain ⟨ha, hl⟩ := List.nodup_cons.mp hn
    rw [List.map_cons, List.map_cons, List.sum_cons, List.sum_cons, ih hl, h a]
    by_cases he : i = a
    · subst he
      simp [ha]
      omega
    · simp [he]
      omega

theorem Bank.energy_add_clear {b : Bank} {a : Account} {x : Nat} (h : (b.add a x).saturated = false) :
    (b.add a x).energy = b.energy + if a ∈ energyAccounts then x else 0 := by
  rw [Bank.energy_eq, Bank.energy_eq]
  exact sum_map_add_at energyAccounts_nodup (Bank.get_add_clear h)

/-! ## The bookings of a split (R43, R44) -/

theorem Bank.booked_cons (x : Account × Nat) (parts : List (Account × Nat)) (b : Bank) :
    b.booked (x :: parts) = (b.add x.1 x.2).booked parts := rfl

theorem Bank.booked_clear {parts : List (Account × Nat)} {b : Bank} (h : (b.booked parts).saturated = false) :
    b.saturated = false := by
  induction parts generalizing b with
  | nil => exact h
  | cons x parts ih => exact (Bank.add_clear (ih h)).1

/-- An accumulator to which no part goes. -/
theorem Bank.booked_get_of_not_mem {parts : List (Account × Nat)} {a : Account} (h : ∀ x ∈ parts, x.1 ≠ a) (b : Bank) :
    (b.booked parts).get a = b.get a := by
  induction parts generalizing b with
  | nil => rfl
  | cons x parts ih =>
    rw [Bank.booked_cons, ih fun y hy => h y (List.mem_cons_of_mem x hy), Bank.get_add,
      if_neg (h x (List.mem_cons_self ..))]

/-- An accumulator to which parts of 0 alone go. -/
theorem Bank.booked_get_of_zero {parts : List (Account × Nat)} {a : Account} (h : ∀ x ∈ parts, x.1 = a → x.2 = 0)
    {b : Bank} (hb : b.get a ≤ bankLimit) : (b.booked parts).get a = b.get a := by
  induction parts generalizing b with
  | nil => rfl
  | cons x parts ih =>
    have hx : (b.add x.1 x.2).get a = b.get a := by
      rw [Bank.get_add]
      split
      · next he => rw [h x (List.mem_cons_self ..) he, he, satAdd, Nat.add_zero, Nat.min_eq_left hb]
      · rfl
    rw [Bank.booked_cons, ih (fun y hy => h y (List.mem_cons_of_mem x hy)) (hx ▸ hb), hx]

theorem Bank.booked_energy {parts : List (Account × Nat)} (he : ∀ x ∈ parts, x.1 ∈ energyAccounts) {b : Bank}
    (h : (b.booked parts).saturated = false) : (b.booked parts).energy = b.energy + (parts.map Prod.snd).sum := by
  induction parts generalizing b with
  | nil => rfl
  | cons x parts ih =>
    rw [Bank.booked_cons, ih (fun y hy => he y (List.mem_cons_of_mem x hy)) h,
      Bank.energy_add_clear (Bank.booked_clear h), if_pos (he x (List.mem_cons_self ..)), List.map_cons, List.sum_cons,
      Nat.add_assoc]

/-- Parts of a quantity booked to the consumers of a list, each in the class given for it. -/
def classShares (cls : Consumer → BookingClass) (entries : List Entry) (q : Nat) (bases : List Nat) :
    List (Account × Nat) :=
  shares q (entries.map fun n => energyAccount n.consumer (cls n.consumer)) bases

theorem bookParts_eq_booked (cls : Consumer → BookingClass) (entries : List Entry) (q : Nat) (bases : List Nat)
    (b : Bank) : bookParts cls entries (split q bases) b = b.booked (classShares cls entries q bases) := by
  rw [bookParts, Bank.booked, classShares, shares, List.zip_map_left, List.foldl_map]
  rfl

theorem fst_mem_of_mem_classShares {cls : Consumer → BookingClass} {entries : List Entry} {q : Nat} {bases : List Nat}
    {x : Account × Nat} (h : x ∈ classShares cls entries q bases) :
    ∃ n ∈ entries, energyAccount n.consumer (cls n.consumer) = x.1 :=
  List.mem_map.mp (List.of_mem_zip h).1

/-- The energy of a bank gains the whole quantity that is split. -/
theorem bookParts_energy (cls : Consumer → BookingClass) {entries : List Entry} (hn : entries ≠ []) (q : Nat)
    (base : Entry → Nat) {b : Bank}
    (h : (bookParts cls entries (split q (entries.map base)) b).saturated = false) :
    (bookParts cls entries (split q (entries.map base)) b).energy = b.energy + q := by
  rw [bookParts_eq_booked] at h ⊢
  rw [Bank.booked_energy (fun x hx => ?_) h, classShares, shares, List.map_snd_zip (by simp), split_sum]
  · simpa using hn
  · obtain ⟨n, -, hn⟩ := fst_mem_of_mem_classShares hx
    exact hn ▸ energyAccount_mem ..

theorem bookParts_clear {cls : Consumer → BookingClass} {entries : List Entry} {q : Nat} {bases : List Nat} {b : Bank}
    (h : (bookParts cls entries (split q bases) b).saturated = false) : b.saturated = false := by
  rw [bookParts_eq_booked] at h
  exact Bank.booked_clear h

/-- What is no account of energy is left as it is. -/
theorem bookParts_get_of_not_mem (cls : Consumer → BookingClass) (entries : List Entry) (parts : List Nat) (b : Bank)
    {a : Account} (h : a ∉ energyAccounts) : (bookParts cls entries parts b).get a = b.get a :=
  bookParts_get cls entries parts b a fun _ _ he => h (he ▸ energyAccount_mem ..)

theorem metered_not_mem : Account.metered ∉ energyAccounts := by decide

theorem furnace_mem_iff (f : Furnace) (k : FurnaceKey) :
    .furnace f k ∈ energyAccounts ↔ k = .producing ∨ k = .standby := by
  simp [energyAccounts, exists_or]

theorem line_mem_iff (l : Line) (k : LineKey) : .line l k ∈ energyAccounts ↔ k = .producing ∨ k = .standby := by
  simp [energyAccounts, exists_or]

/-- The pulled mass of a furnace or a line (R40). -/
def Account.isPulled : Account → Bool
  | .furnace _ .pulled | .line _ .pulled => true
  | _ => false

theorem energyAccounts_not_pulled {a : Account} (h : a ∈ energyAccounts) : a.isPulled = false := by
  have hall : ∀ a ∈ energyAccounts, a.isPulled = false := by decide
  exact hall a h

theorem ne_of_isPulled {a a' : Account} (ha : a.isPulled = false) (ha' : a'.isPulled = true) : a ≠ a' := by
  rintro rfl
  exact absurd (ha.symm.trans ha') Bool.false_ne_true

theorem not_mem_of_isPulled {a : Account} (h : a.isPulled = true) : a ∉ energyAccounts :=
  fun hm => ne_of_isPulled (energyAccounts_not_pulled hm) h rfl

/-- A booking to another accumulator leaves a pulled mass. -/
theorem Bank.add_pulled {a a' : Account} (ha : a.isPulled = false) (ha' : a'.isPulled = true) (b : Bank) (x : Nat) :
    (b.add a x).get a' = b.get a' := by
  rw [Bank.get_add, if_neg (ne_of_isPulled ha ha')]

/-! ## Classes (R43) -/

theorem working_eq (s : State) (c : Consumer) : working s c = inProducingClass s c := by
  cases c with
  | furnace f =>
    simp only [working, inProducingClass]
    rcases s.furnaces[f].state with _ | st
    · rfl
    · cases st <;> rfl
  | line l =>
    simp only [working, inProducingClass]
    rcases s.lines[l].state with _ | st
    · rfl
    · cases st <;> rfl
  | common => rfl

theorem energyAccount_producing (c : Consumer) : energyAccount c .producing = energyOf true c := by cases c <;> rfl

theorem energyAccount_standby (c : Consumer) : energyAccount c .standby = energyOf false c := by cases c <;> rfl

theorem energyAccount_classOf (s : State) (c : Consumer) :
    energyAccount c (classOf s c) = energyOf (inProducingClass s c) c := by
  rw [classOf, working_eq]
  cases inProducingClass s c
  · exact energyAccount_standby c
  · exact energyAccount_producing c

/-! ## What a booking moves in the open books (R42) -/

/-- `t` is `s` with `e` more metered and `e` more in the accounts and the open pools, while its open bank's mark is
clear; the masses pulled, the phase and the configuration are those of `s`. -/
structure EnergyMoved (e : Nat) (s t : State) : Prop where
  phase : t.phase = s.phase
  config : t.config = s.config
  pulled : ∀ a, a.isPulled = true → t.openBank.get a = s.openBank.get a
  clear : t.openBank.saturated = false → s.openBank.saturated = false
  metered : t.openBank.saturated = false → t.openBank.metered = s.openBank.metered + e
  energy : t.openBank.saturated = false → t.openBank.energy + openPools t = s.openBank.energy + openPools s + e

/-- The bookings of a split, after `e` has been added to the metered energy, move it to the accounts. -/
theorem bookParts_moved (cls : Consumer → BookingClass) {entries : List Entry} (hn : entries ≠ []) (e : Nat)
    (base : Entry → Nat) (s : State) :
    EnergyMoved e s (s.setOpenBank
      (bookParts cls entries (split e (entries.map base)) (s.openBank.add .metered e))) where
  phase := rfl
  config := rfl
  pulled a ha := by
    rw [State.setOpenBank_openBank, bookParts_get_of_not_mem _ _ _ _ (not_mem_of_isPulled ha), Bank.add_pulled rfl ha]
  clear h := (Bank.add_clear (bookParts_clear h)).1
  metered h := by
    rw [State.setOpenBank_openBank, bookParts_metered]
    exact Bank.get_add_clear (bookParts_clear h) .metered
  energy h := by
    rw [State.setOpenBank_openBank] at h ⊢
    rw [bookParts_energy cls hn e base h, Bank.energy_add_clear (bookParts_clear h), if_neg metered_not_mem,
      Nat.add_zero, Nat.add_right_comm]
    rfl

theorem book_moved {a : Account} (ha : a ∈ energyAccounts) (e : Nat) (s : State) :
    EnergyMoved e s ((s.book .metered e).book a e) where
  phase := rfl
  config := rfl
  pulled a' ha' :=
    (Bank.add_pulled (energyAccounts_not_pulled ha) ha' _ e).trans (Bank.add_pulled rfl ha' _ e)
  clear h := (Bank.add_clear (Bank.add_clear h).1).1
  metered h := by
    have hm : a ≠ .metered := fun h => metered_not_mem (h ▸ ha)
    have h1 := Bank.get_add_clear h .metered
    rw [if_neg hm] at h1
    exact h1.trans (Bank.get_add_clear (Bank.add_clear h).1 .metered)
  energy h := by
    have h1 := Bank.energy_add_clear h
    have h0 := Bank.energy_add_clear (Bank.add_clear h).1
    rw [if_pos ha] at h1
    rw [if_neg metered_not_mem] at h0
    simp only [State.book, State.setOpenBank_openBank] at h0 h1 ⊢
    rw [h1, h0, Nat.add_zero, Nat.add_right_comm]
    rfl

/-! ## The open pools (R51) -/

/-- A sum in which one term is exchanged. -/
theorem sum_map_exchange {α : Type} [DecidableEq α] {l : List α} (hn : l.Nodup) {i : α} (hi : i ∈ l) {f g : α → Nat}
    (h : ∀ j, i ≠ j → g j = f j) : (l.map g).sum + f i = (l.map f).sum + g i := by
  have without (f' : α → Nat) (hf : ∀ j, i ≠ j → f' j = f j) :
      (l.map f').sum = (l.map fun j => if i = j then 0 else f j).sum + f' i := by
    refine (sum_map_add_at hn fun j => ?_).trans (by rw [if_pos hi])
    by_cases hj : i = j
    · simp [hj]
    · simp [hj, hf j hj]
  rw [without g h, without f fun _ _ => rfl]
  omega

theorem openPools_setPool (s : State) (c : Chan) (q : Pool) :
    openPools (s.setPool c q) + s.pools[c].opened = openPools s + q.opened := by
  have h := sum_map_exchange (List.nodup_finRange 32) (List.mem_finRange c)
    (f := fun c' : Chan => s.pools[c'].opened) (g := fun c' : Chan => (s.setPool c q).pools[c'].opened) fun c' hc => by
      rw [State.setPool_pools, get_set_ne _ _ _ _ hc]
  rw [State.setPool_pools, get_set_self] at h
  exact h

theorem placePool_moved (c : Chan) (e : Nat) (s : State) : EnergyMoved e s (placePool c e (s.book .metered e)) where
  phase := rfl
  config := rfl
  pulled a ha := (Bank.get_mark _ _ a).trans (Bank.add_pulled rfl ha _ e)
  clear h := (Bank.add_clear (Bool.or_eq_false_iff.mp h).1).1
  metered h := Bank.get_add_clear (Bool.or_eq_false_iff.mp h).1 .metered
  energy h := by
    obtain ⟨hb, hq⟩ := Bool.or_eq_false_iff.mp h
    have hq' : satAdd bankLimit s.pools[c].opened e = s.pools[c].opened + e := satAdd_of_not_over hq
    have he := Bank.energy_add_clear hb
    have hp := openPools_setPool s c ⟨satAdd bankLimit s.pools[c].opened e, s.pools[c].closing⟩
    rw [if_neg metered_not_mem] at he
    change (s.openBank.add .metered e).energy +
      openPools (s.setPool c ⟨satAdd bankLimit s.pools[c].opened e, s.pools[c].closing⟩) = _
    dsimp only at hp
    omega

/-! ## The four modes (R47 to R51) -/

section
variable {c : Chan} {e : Nat} {tag : Option Consumer} {s : State}

/-- Raising a source moves no energy. -/
theorem EnergyMoved.raise {t : State} (h : EnergyMoved e s t) (src : AlertSource) (obj : Option Nat) :
    EnergyMoved e s (raise src obj t) := by
  rw [raise_frame]
  exact ⟨h.phase, h.config, h.pulled, h.clear, h.metered, h.energy⟩

theorem placeIncrement_fixed (h : s.config.channels[c].mode = .fixed) :
    placeIncrement c e tag s = placeFixed s.config.channels[c].entries e (s.book .metered e) := by
  simp only [placeIncrement, h]

theorem placeIncrement_state (h : s.config.channels[c].mode = .state) :
    placeIncrement c e tag s = placeState s.config.channels[c].entries e (s.book .metered e) := by
  simp only [placeIncrement, h]

theorem placeIncrement_tagged (h : s.config.channels[c].mode = .tagged) :
    placeIncrement c e tag s = placeTagged c s.config.channels[c].entries e tag (s.book .metered e) := by
  simp only [placeIncrement, h]

theorem placeIncrement_driver (h : s.config.channels[c].mode = .driver) :
    placeIncrement c e tag s = placePool c e (s.book .metered e) := by
  simp only [placeIncrement, h]

/-- Where the list of the channel has an entry, an increment is metered and placed whole, whatever the mode (R42). -/
theorem placeIncrement_moved (hn : s.config.channels[c].entries ≠ []) (tag : Option Consumer) :
    EnergyMoved e s (placeIncrement c e tag s) := by
  cases hm : s.config.channels[c].mode with
  | fixed =>
    rw [placeIncrement_fixed hm]
    exact bookParts_moved _ hn e Entry.weight s
  | state =>
    rw [placeIncrement_state hm]
    unfold placeState
    dsimp only
    split
    · exact bookParts_moved _ hn e Entry.weight s
    · next hw => exact bookParts_moved _ (mt List.isEmpty_iff.mpr hw) e Entry.weight s
  | tagged =>
    have common := book_moved (energyAccount_mem .common .standby) e s
    rw [placeIncrement_tagged hm]
    unfold placeTagged
    split
    · split
      · exact book_moved (energyAccount_mem ..) e s
      · exact common.raise ..
    · exact common.raise ..
  | driver =>
    rw [placeIncrement_driver hm]
    exact placePool_moved c e s

end

section
variable (entries : List Entry) (e : Nat) (s : State)

theorem placeFixed_eq :
    placeFixed entries e s = s.setOpenBank (s.openBank.booked
      (shares e (entries.map fun n => energyOf (inProducingClass s n.consumer) n.consumer) (entries.map Entry.weight))) := by
  simp only [placeFixed, bookParts_eq_booked, classShares, energyAccount_classOf]

theorem placeState_working (hw : (entries.filter fun n => inProducingClass s n.consumer) ≠ []) :
    placeState entries e s = s.setOpenBank (s.openBank.booked
      (shares e ((entries.filter fun n => inProducingClass s n.consumer).map fun n => energyOf true n.consumer)
        ((entries.filter fun n => inProducingClass s n.consumer).map Entry.weight))) := by
  simp only [placeState, working_eq]
  rw [if_neg (mt List.isEmpty_iff.mp hw)]
  simp only [bookParts_eq_booked, classShares, energyAccount_producing]

theorem placeState_idle (hw : (entries.filter fun n => inProducingClass s n.consumer) = []) :
    placeState entries e s = s.setOpenBank (s.openBank.booked
      (shares e (entries.map fun n => energyOf false n.consumer) (entries.map Entry.weight))) := by
  simp only [placeState, working_eq]
  rw [if_pos (List.isEmpty_iff.mpr hw)]
  simp only [bookParts_eq_booked, classShares, energyAccount_standby]

/-- Whether an entry list names a consumer. -/
theorem any_consumer_iff (n : Consumer) : (entries.any fun x => x.consumer == n) = true ↔ ∃ w, ⟨n, w⟩ ∈ entries := by
  rw [List.any_eq_true]
  constructor
  · rintro ⟨⟨m, w⟩, hm, he⟩
    obtain rfl := beq_iff_eq.mp he
    exact ⟨w, hm⟩
  · rintro ⟨w, hm⟩
    exact ⟨_, hm, beq_self_eq_true n⟩

variable (c : Chan) {tag : Option Consumer}

theorem placeTagged_listed {n : Consumer} (ht : tag = some n) (hn : ∃ w, ⟨n, w⟩ ∈ entries)
    (he : enabled s.config n = true) :
    placeTagged c entries e tag s =
      s.setOpenBank (s.openBank.booked [(energyOf (inProducingClass s n) n, e)]) := by
  subst ht
  unfold placeTagged
  dsimp only
  rw [if_pos (by rw [(any_consumer_iff entries n).mpr hn, he]; rfl), energyAccount_classOf]
  rfl

theorem placeTagged_unlisted
    (h : ∀ n, tag = some n → (∀ w, ⟨n, w⟩ ∉ entries) ∨ enabled s.config n = false) :
    placeTagged c entries e tag s =
      raise .tagUnlisted (some c.val) (s.setOpenBank (s.openBank.booked [(.common, e)])) := by
  cases tag with
  | none => rfl
  | some n =>
    refine if_neg fun hb => ?_
    obtain ⟨hl, he⟩ := Bool.and_eq_true_iff.mp hb
    obtain ⟨w, hw⟩ := (any_consumer_iff entries n).mp hl
    rcases h n rfl with hn | hn
    · exact hn w hw
    · exact absurd he (Bool.eq_false_iff.mp hn)

end

/-- Metering an increment changes no consumer's class. -/
theorem inProducingClass_book (s : State) (a : Account) (x : Nat) :
    inProducingClass (s.book a x) = inProducingClass s := by
  funext n
  cases n <;> rfl

/-- What placing leaves besides the open bank, the pools and the alerts. -/
theorem placeIncrement_other (c : Chan) (e : Nat) (tag : Option Consumer) (s : State) :
    (placeIncrement c e tag s).furnaces = s.furnaces ∧ (placeIncrement c e tag s).lines = s.lines ∧
      (placeIncrement c e tag s).channels = s.channels ∧ (placeIncrement c e tag s).closingBank = s.closingBank ∧
      (placeIncrement c e tag s).config = s.config ∧ (placeIncrement c e tag s).interval = s.interval := by
  rw [placeIncrement_frame]
  exact ⟨rfl, rfl, rfl, rfl, rfl, rfl⟩

/-- Settles O28: the modes by the equation of each, the balance by what a placed increment moves. -/
theorem incrementIsPlacedAndBalances : Obligations.IncrementIsPlacedAndBalances := by
  refine ⟨fun c e tag s => ?_, fun b a x => ⟨?_, fun a' ha => ?_, ?_⟩⟩
  · have cls := inProducingClass_book s .metered e
    refine ⟨fun hm => ?_, fun hm hw => ?_, fun hm hw => ?_, fun hm => ⟨fun n ht hn he => ?_, fun h => ?_⟩, fun hm => ?_,
      fun hn _ ht => ?_, placeIncrement_other c e tag s⟩
    · rw [placeIncrement_fixed hm, placeFixed_eq, cls]
      rfl
    · rw [placeIncrement_state hm, placeState_working _ e _ (by rwa [cls]), cls]
      rfl
    · rw [placeIncrement_state hm, placeState_idle _ e _ (by rwa [cls])]
      rfl
    · rw [placeIncrement_tagged hm, placeTagged_listed _ e (s.book .metered e) c ht hn he, cls]
      rfl
    · rw [placeIncrement_tagged hm, placeTagged_unlisted _ e (s.book .metered e) c h]
      rfl
    · rw [placeIncrement_driver hm]
      rfl
    · have moved := placeIncrement_moved hn tag (e := e)
      exact ⟨moved.metered ht, moved.energy ht⟩
  · rw [Bank.get_add, if_pos rfl]
    rfl
  · rw [Bank.get_add, if_neg ha.symm]
  · rw [Bank.add_saturated, Bool.or_eq_true, satOver, decide_eq_true_iff]
    rfl

/-! ## Settlements (R52, R54) -/

section
variable {entries : List Entry} (q : Nat) {b : Bank}

/-- The bases of a settlement: weight times driver (R52). -/
def driverBase (b : Bank) (n : Entry) : Nat := n.weight * driverMass b n.consumer

theorem settle_driven (hw : ∀ n ∈ entries, 0 < n.weight) (h : ∃ n ∈ entries, 0 < driverMass b n.consumer) :
    settle entries q b = bookParts (fun _ => .producing) entries (split q (entries.map (driverBase b))) b := by
  obtain ⟨n, hn, hd⟩ := h
  exact if_pos (List.any_eq_true.mpr ⟨driverBase b n, List.mem_map_of_mem (f := driverBase b) hn,
    decide_eq_true (Nat.mul_pos (hw n hn) hd)⟩)

theorem settle_undriven (h : ∀ n ∈ entries, driverMass b n.consumer = 0) :
    settle entries q b = bookParts (fun _ => .standby) entries (split q (entries.map Entry.weight)) b := by
  refine if_neg fun hb => ?_
  obtain ⟨x, hx, hp⟩ := List.any_eq_true.mp hb
  obtain ⟨n, hn, rfl⟩ := List.mem_map.mp hx
  simp [h n hn] at hp

/-- A settlement books the whole pool, in one class or the other. -/
theorem settle_cases (entries : List Entry) (q : Nat) (b : Bank) : ∃ (k : BookingClass) (base : Entry → Nat),
    settle entries q b = bookParts (fun _ => k) entries (split q (entries.map base)) b := by
  unfold settle
  dsimp only
  split
  · exact ⟨_, driverBase b, rfl⟩
  · exact ⟨_, Entry.weight, rfl⟩

theorem settle_get_of_not_mem {a : Account} (h : a ∉ energyAccounts) : (settle entries q b).get a = b.get a := by
  obtain ⟨k, base, he⟩ := settle_cases entries q b
  rw [he]
  exact bookParts_get_of_not_mem _ _ _ _ h

theorem settle_clear (h : (settle entries q b).saturated = false) : b.saturated = false := by
  obtain ⟨k, base, he⟩ := settle_cases entries q b
  rw [he] at h
  exact bookParts_clear h

theorem settle_energy (hn : entries ≠ []) (h : (settle entries q b).saturated = false) :
    (settle entries q b).energy = b.energy + q := by
  obtain ⟨k, base, he⟩ := settle_cases entries q b
  rw [he] at h ⊢
  exact bookParts_energy _ hn q base h

theorem driverBase_sum_pos (hw : ∀ n ∈ entries, 0 < n.weight) (h : ∃ n ∈ entries, 0 < driverMass b n.consumer) :
    0 < (entries.map (driverBase b)).sum := by
  obtain ⟨n, hn, hd⟩ := h
  exact Nat.lt_of_lt_of_le (Nat.mul_pos (hw n hn) hd)
    (List.le_sum_of_mem (List.mem_map_of_mem (f := driverBase b) hn))

theorem eq_common_of_energyAccount {c : Consumer} {k : BookingClass} (h : energyAccount c k = .common) :
    c = .common := by
  cases c <;> cases k <;> simp [energyAccount] at h ⊢

/-- With a driver above 0 nothing goes to COMMON, whose base is 0. -/
theorem settle_driven_common (hw : ∀ n ∈ entries, 0 < n.weight) (h : ∃ n ∈ entries, 0 < driverMass b n.consumer)
    (hb : b.common ≤ bankLimit) : (settle entries q b).common = b.common := by
  rw [settle_driven q hw h, bookParts_eq_booked]
  refine Bank.booked_get_of_zero (a := .common) (fun x hx hc => ?_) hb
  obtain ⟨i, hi, rfl⟩ := List.getElem_of_mem hx
  simp only [classShares, shares, List.getElem_zip, List.getElem_map] at hc ⊢
  have hl : i < entries.length := by simpa [classShares, shares] using hi
  have base : (entries.map (driverBase b)).getD i 0 = 0 := by
    simp [hl, driverBase, eq_common_of_energyAccount hc, driverMass]
  rw [← split_getD_zero q (driverBase_sum_pos hw h) base, List.getD_eq_getElem]

end

/-- No account of one class is one of the other. -/
theorem energyAccount_ne (c : Consumer) (f : Furnace) (l : Line) :
    energyAccount c .producing ≠ .furnace f .standby ∧ energyAccount c .producing ≠ .line l .standby ∧
      energyAccount c .standby ≠ .furnace f .producing ∧ energyAccount c .standby ≠ .line l .producing := by
  cases c <;> simp [energyAccount]

/-- Settles O29: what a settlement books by its two classes, and the row CLOSING_POOL_SETTLE by its definition. -/
theorem settlementBooksThePool : Obligations.SettlementBooksThePool := by
  refine ⟨fun entries q b hn hw => ?_, fun c s k l hk hl => ?_⟩
  · refine ⟨fun h => ?_, fun h => ?_, fun n _ => by cases n.consumer <;> rfl, settle_energy q hn,
      settle_get_of_not_mem q metered_not_mem, fun f k hp hs => settle_get_of_not_mem q ?_,
      fun l k hp hs => settle_get_of_not_mem q ?_, fun h => ⟨fun f => ?_, fun l => ?_, settle_driven_common q hw h⟩,
      fun h => ⟨fun f => ?_, fun l => ?_⟩⟩
    · rw [settle_driven q hw h, bookParts_eq_booked]
      simp only [classShares, energyAccount_producing]
      rfl
    · rw [settle_undriven q h, bookParts_eq_booked]
      simp only [classShares, energyAccount_standby]
    · simp [furnace_mem_iff, hp, hs]
    · simp [line_mem_iff, hp, hs]
    · rw [settle_driven q hw h]
      exact bookParts_get _ _ _ _ _ fun n _ => (energyAccount_ne n.consumer f 0).1
    · rw [settle_driven q hw h]
      exact bookParts_get _ _ _ _ _ fun n _ => (energyAccount_ne n.consumer 0 l).2.1
    · rw [settle_undriven q h]
      exact bookParts_get _ _ _ _ _ fun n _ => (energyAccount_ne n.consumer f 0).2.2.1
    · rw [settle_undriven q h]
      exact bookParts_get _ _ _ _ _ fun n _ => (energyAccount_ne n.consumer 0 l).2.2.2
  · refine congrArg Host.Outcome.next ?_
    rw [hk]
    dsimp only
    unfold settleClosingPool
    rw [hl]

end Sys2Proof.Machine
end

section
/-! PROOF. O59: what a command can move in the open books: the bank, the open pools, and what the balance looks at
besides. -/

namespace Sys2Proof.Machine

/-! ## The masses pulled by lines and furnaces (R77) -/

/-- The pulled mass of the lines that a furnace feeds (R77). -/
def linesPulled (g : Configuration) (b : Bank) (f : Furnace) : Nat :=
  (((List.finRange 12).filter fun l : Line => g.lines[l].feeding == f).map fun l => b.lines[l].pulled).sum

/-- What one line counts for a furnace: its pulled mass if the furnace feeds it. -/
def linePulled (g : Configuration) (b : Bank) (f : Furnace) (l : Line) : Nat :=
  if g.lines[l].feeding = f then b.get (.line l .pulled) else 0

theorem sum_map_filter {α : Type} (p : α → Bool) (f : α → Nat) (l : List α) :
    ((l.filter p).map f).sum = (l.map fun a => if p a = true then f a else 0).sum := by
  induction l with
  | nil => rfl
  | cons a l ih =>
    rw [List.filter_cons]
    split <;> simp [*]

theorem linesPulled_eq (g : Configuration) (b : Bank) (f : Furnace) :
    linesPulled g b f = ((List.finRange 12).map (linePulled g b f)).sum := by
  rw [linesPulled, sum_map_filter]
  simp only [beq_iff_eq]
  rfl

theorem linesPulled_congr {g g' : Configuration} {b b' : Bank} {f : Furnace}
    (h : ∀ l, linePulled g' b' f l = linePulled g b f l) : linesPulled g' b' f = linesPulled g b f := by
  rw [linesPulled_eq, linesPulled_eq, List.map_congr_left fun l _ => h l]

theorem sum_map_zero {α : Type} {f : α → Nat} (h : ∀ a, f a = 0) (l : List α) : (l.map f).sum = 0 := by
  refine List.sum_eq_zero fun x hx => ?_
  obtain ⟨a, -, rfl⟩ := List.mem_map.mp hx
  exact h a

theorem linesPulled_zero (g : Configuration) {b : Bank} (h : ∀ l : Line, b.get (.line l .pulled) = 0) (f : Furnace) :
    linesPulled g b f = 0 := by
  rw [linesPulled_eq]
  exact sum_map_zero (fun l => by simp [linePulled, h]) _

theorem linesPulled_add (g : Configuration) {b b' : Bank} {l : Line} {m : Nat}
    (h : ∀ l', b'.get (.line l' .pulled) = b.get (.line l' .pulled) + if l = l' then m else 0) (f : Furnace) :
    linesPulled g b' f = linesPulled g b f + if g.lines[l].feeding = f then m else 0 := by
  rw [linesPulled_eq, linesPulled_eq]
  refine (sum_map_add_at (List.nodup_finRange 12) fun l' => ?_).trans (congrArg _ (if_pos (List.mem_finRange l)))
  unfold linePulled
  rw [h l']
  by_cases hl : l = l'
  · subst hl
    split <;> simp
  · simp [hl]

/-! ## Tallies and draws (R77, R80, R97) -/

theorem Bank.booked_get_clear {parts : List (Account × Nat)} {b : Bank} (h : (b.booked parts).saturated = false)
    (a : Account) : (b.booked parts).get a = b.get a + (parts.map fun x => if x.1 = a then x.2 else 0).sum := by
  induction parts generalizing b with
  | nil => rfl
  | cons x parts ih =>
    rw [Bank.booked_cons, ih h, Bank.get_add_clear (Bank.booked_clear h), List.map_cons, List.sum_cons, Nat.add_assoc]

/-- What a draw of a mass books to the furnace: the unbacked mass, the mass and the cullet. -/
def drawParts (f : Furnace) (m unbacked cullet : Nat) : List (Account × Nat) :=
  [(.furnace f .unbacked, unbacked), (.furnace f .pulled, m), (.furnace f .cullet, cullet)]

/-- What a tally books to its line (R97). -/
def tallyParts (l : Line) (m : TallyMasses) : List (Account × Nat) :=
  [(.line l .pulled, m.pulled), (.line l .change, m.change), (.line l .packed, m.packed)]

theorem draw_openBank (f : Furnace) (m : Nat) (s : State) :
    ∃ unbacked cullet, (draw f m s).openBank = s.openBank.booked (drawParts f m unbacked cullet) := by
  let d := drawQueue s.furnaces[f].lastCullet m s.furnaces[f].queue
  refine ⟨d.unbacked, d.cullet + d.unbacked * d.lastCullet / 1000, ?_⟩
  unfold draw
  dsimp only
  split
  · exact raise_openBank ..
  · rfl

/-- The part in which a tally is booked to its line, before the draw. -/
def tallied (l : Line) (m : TallyMasses) (s : State) : State := s.setOpenBank (s.openBank.booked (tallyParts l m))

/-- The part in which a tally is booked and its draw is made. -/
def tallyDrawn (l : Line) (m : TallyMasses) (s : State) : State :=
  if 0 < m.pulled then draw s.config.lines[l].feeding m.pulled (tallied l m s) else tallied l m s

theorem bookTally_eq (l : Line) (m : TallyMasses) (s : State) :
    bookTally l m s =
      if 0 < m.absorbed then raise .holdCuts (some l.val) (tallyDrawn l m s) else tallyDrawn l m s := rfl

theorem tallyDrawn_frame (l : Line) (m : TallyMasses) (s : State) :
    tallyDrawn l m s =
      { s with openBank := (tallyDrawn l m s).openBank, furnaces := (tallyDrawn l m s).furnaces,
               alerts := (tallyDrawn l m s).alerts, ports := (tallyDrawn l m s).ports } := by
  unfold tallyDrawn
  split
  · rw [draw_frame]
    rfl
  · rfl

theorem tallyDrawn_openBank (l : Line) (m : TallyMasses) (s : State) :
    ∃ unbacked cullet, (tallyDrawn l m s).openBank =
      s.openBank.booked (tallyParts l m ++
        if 0 < m.pulled then drawParts s.config.lines[l].feeding m.pulled unbacked cullet else []) := by
  unfold tallyDrawn
  split
  · obtain ⟨u, k, h⟩ := draw_openBank s.config.lines[l].feeding m.pulled (tallied l m s)
    exact ⟨u, k, h.trans (List.foldl_append ..).symm⟩
  · exact ⟨0, 0, by rw [List.append_nil]; rfl⟩

/-- The masses of a draw and of a tally are no energy. -/
theorem drawParts_masses {f : Furnace} {m u k : Nat} {x : Account × Nat} (hx : x ∈ drawParts f m u k) :
    x.1 ∉ .metered :: energyAccounts := by
  simp only [drawParts, List.mem_cons, List.not_mem_nil, or_false] at hx
  rcases hx with rfl | rfl | rfl <;> simp [furnace_mem_iff]

theorem tallyParts_masses {l : Line} {m : TallyMasses} {x : Account × Nat} (hx : x ∈ tallyParts l m) :
    x.1 ∉ .metered :: energyAccounts := by
  simp only [tallyParts, List.mem_cons, List.not_mem_nil, or_false] at hx
  rcases hx with rfl | rfl | rfl <;> simp [line_mem_iff]

/-- A tally books no energy. -/
theorem tallyDrawn_energy {l : Line} {m : TallyMasses} {s : State} {a : Account} (ha : a ∈ .metered :: energyAccounts) :
    (tallyDrawn l m s).openBank.get a = s.openBank.get a := by
  obtain ⟨u, k, hb⟩ := tallyDrawn_openBank l m s
  rw [hb]
  refine Bank.booked_get_of_not_mem (fun x hx he => ?_) _
  rcases List.mem_append.mp hx with hx | hx
  · exact tallyParts_masses hx (he ▸ ha)
  · split at hx
    · exact drawParts_masses hx (he ▸ ha)
    · exact absurd hx List.not_mem_nil

/-- What a tally adds to the pulled masses: as much to the line as to the furnace that feeds it (R77). -/
theorem tallyDrawn_pulled {l : Line} {m : TallyMasses} {s : State}
    (h : (tallyDrawn l m s).openBank.saturated = false) :
    s.openBank.saturated = false ∧
    (∀ f, (tallyDrawn l m s).openBank.get (.furnace f .pulled) =
      s.openBank.get (.furnace f .pulled) + if s.config.lines[l].feeding = f then m.pulled else 0) ∧
    ∀ l', (tallyDrawn l m s).openBank.get (.line l' .pulled) =
      s.openBank.get (.line l' .pulled) + if l = l' then m.pulled else 0 := by
  obtain ⟨u, k, hb⟩ := tallyDrawn_openBank l m s
  rw [hb] at h ⊢
  refine ⟨Bank.booked_clear h, ?_⟩
  simp only [Bank.booked_get_clear h]
  by_cases hm : 0 < m.pulled
  · simp [hm, tallyParts, drawParts]
  · simp [Nat.eq_zero_of_not_pos hm, tallyParts]

/-! ## What keeps the balance -/

/-- The balance is a matter of the phase, the configuration, the open bank and the open pools. -/
structure SameBooks (s t : State) : Prop where
  phase : t.phase = s.phase
  config : t.config = s.config
  openBank : t.openBank = s.openBank
  opened : ∀ c : Chan, t.pools[c].opened = s.pools[c].opened

namespace BooksBalance
variable {s t : State}

/-- What moves energy within the open books keeps their balance. -/
theorem moved {e : Nat} (h : BooksBalance s) (m : EnergyMoved e s t) : BooksBalance t := by
  obtain ⟨lists, still, balanced⟩ := h
  have furnaces (f : Furnace) : t.openBank.furnaces[f].pulled = s.openBank.furnaces[f].pulled :=
    m.pulled (.furnace f .pulled) rfl
  have lines (l : Line) : t.openBank.lines[l].pulled = s.openBank.lines[l].pulled := m.pulled (.line l .pulled) rfl
  refine ⟨m.config ▸ lists, fun hp => ?_, fun hs => ?_⟩
  · obtain ⟨hf, hl⟩ := still (m.phase ▸ hp)
    exact ⟨fun f => (furnaces f).trans (hf f), fun l => (lines l).trans (hl l)⟩
  · obtain ⟨hm, hf⟩ := balanced (m.clear hs)
    refine ⟨by rw [m.metered hs, m.energy hs, hm], fun f => (furnaces f).trans ((hf f).trans ?_)⟩
    simp only [lines, m.config]

theorem same (h : BooksBalance s) (e : SameBooks s t) : BooksBalance t := by
  refine h.moved (e := 0) ⟨e.phase, e.config, fun a _ => by rw [e.openBank], fun hs => e.openBank ▸ hs,
    fun _ => by rw [e.openBank]; rfl, fun _ => ?_⟩
  unfold openPools
  simp only [e.openBank, e.opened, Nat.add_zero]

/-- A booking of neither energy nor a pulled mass. -/
theorem book {a : Account} (ha : a ∉ .metered :: energyAccounts) (hp : a.isPulled = false) (x : Nat)
    (h : BooksBalance s) : BooksBalance (s.book a x) := by
  have keeps (a' : Account) (ha' : a' ∈ .metered :: energyAccounts) :
      (s.openBank.add a x).get a' = s.openBank.get a' := by
    rw [Bank.get_add]
    refine if_neg ?_
    rintro rfl
    exact ha ha'
  have energy : (s.openBank.add a x).energy = s.openBank.energy :=
    Bank.energy_congr fun a' ha' => keeps a' (List.mem_cons_of_mem _ ha')
  exact h.moved (e := 0)
    { phase := rfl
      config := rfl
      pulled := fun a' ha' => Bank.add_pulled hp ha' _ x
      clear := fun hs => (Bank.add_clear hs).1
      metered := fun _ => keeps .metered (List.mem_cons_self ..)
      energy := fun _ => by
        rw [Nat.add_zero, book_frame]
        exact congrArg (· + openPools s) energy }

theorem tallyDrawn (hr : s.phase = .running) (l : Line) (m : TallyMasses) (h : BooksBalance s) :
    BooksBalance (tallyDrawn l m s) := by
  obtain ⟨lists, -, balanced⟩ := h
  have frame := tallyDrawn_frame l m s
  have hconfig : (Machine.tallyDrawn l m s).config = s.config := (congrArg State.config frame :)
  have hphase : (Machine.tallyDrawn l m s).phase = s.phase := (congrArg State.phase frame :)
  have hpools : (Machine.tallyDrawn l m s).pools = s.pools := (congrArg State.pools frame :)
  refine ⟨hconfig ▸ lists, fun hp => ?_, fun hs => ?_⟩
  · rw [hphase, hr] at hp
    cases hp
  · obtain ⟨clear, furnaces, lines⟩ := tallyDrawn_pulled hs
    obtain ⟨hm, hf⟩ := balanced clear
    have energy := Bank.energy_congr fun a ha => tallyDrawn_energy (l := l) (m := m) (s := s) (List.mem_cons_of_mem _ ha)
    refine ⟨?_, fun f => (furnaces f).trans ?_⟩
    · rw [energy, openPools, hpools]
      exact (tallyDrawn_energy (List.mem_cons_self ..)).trans hm
    · calc s.openBank.furnaces[f].pulled + (if s.config.lines[l].feeding = f then m.pulled else 0)
          = linesPulled s.config s.openBank f + (if s.config.lines[l].feeding = f then m.pulled else 0) := by
            rw [hf f]
            rfl
        _ = linesPulled s.config (Machine.tallyDrawn l m s).openBank f := (linesPulled_add _ lines f).symm
        _ = linesPulled (Machine.tallyDrawn l m s).config (Machine.tallyDrawn l m s).openBank f := by rw [hconfig]

/-- Another configuration whose lists have entries, and under which no line that has drawn changes its furnace. -/
theorem setConfig {g : Configuration} (lists : ∀ c : Chan, g.channels[c].entries ≠ [])
    (feeding : ∀ l : Line, g.lines[l].feeding = s.config.lines[l].feeding ∨ s.openBank.get (.line l .pulled) = 0)
    (h : BooksBalance s) : BooksBalance (s.setConfig g) := by
  obtain ⟨-, still, balanced⟩ := h
  refine ⟨lists, still, fun hs => ?_⟩
  obtain ⟨hm, hf⟩ := balanced hs
  refine ⟨hm, fun f => (hf f).trans (linesPulled_congr fun l => ?_).symm⟩
  rcases feeding l with hl | hl
  · rw [linePulled, State.setConfig_config, hl]
    rfl
  · simp only [linePulled, State.setConfig_openBank, hl, ite_self]

/-- An emptied bank with no open pool. -/
theorem zeroed (hb : t.openBank = .zero) (hp : ∀ c : Chan, t.pools[c].opened = 0)
    (lists : ∀ c : Chan, t.config.channels[c].entries ≠ []) : BooksBalance t := by
  have furnaces (f : Furnace) : t.openBank.furnaces[f].pulled = 0 := hb ▸ Bank.zero_get (.furnace f .pulled)
  have lines (l : Line) : t.openBank.get (.line l .pulled) = 0 := hb ▸ Bank.zero_get _
  refine ⟨lists, fun _ => ⟨furnaces, lines⟩, fun _ => ⟨?_, fun f => ?_⟩⟩
  · have metered : t.openBank.metered = 0 := hb ▸ Bank.zero_get .metered
    have energy : t.openBank.energy = 0 := hb ▸ (Bank.energy_eq _).trans (sum_map_zero Bank.zero_get _)
    have pools : openPools t = 0 := sum_map_zero hp _
    rw [metered, energy, pools]
  · exact (furnaces f).trans (linesPulled_zero _ lines f).symm

/-! ## Readings and settlements -/

theorem raise (src : AlertSource) (obj : Option Nat) (h : BooksBalance s) : BooksBalance (raise src obj s) := by
  rw [raise_frame]
  exact h

theorem bookTally (hr : s.phase = .running) (l : Line) (m : TallyMasses) (h : BooksBalance s) :
    BooksBalance (bookTally l m s) := by
  rw [bookTally_eq]
  split
  · exact (h.tallyDrawn hr l m).raise _ _
  · exact h.tallyDrawn hr l m

theorem placeIncrement (c : Chan) (e : Nat) (tag : Option Consumer) (h : BooksBalance s) :
    BooksBalance (placeIncrement c e tag s) := by
  obtain ⟨lists, -⟩ := id h
  exact h.moved (placeIncrement_moved (lists c) tag)

theorem handOn (c : Chan) (u : Nat) (tag : Option Consumer) (h : BooksBalance s) : BooksBalance (handOn c u tag s).1 := by
  rcases Nat.eq_zero_or_pos u with rfl | hu
  · exact h
  · rw [handOn_pos hu]
    have hc : BooksBalance (counted c u s) := by
      unfold counted
      split <;> exact h
    exact placeIncrement (s := (counted c u s).setChannel c _) c _ tag hc

theorem finishReading (c : Chan) (o : ReadingOutcome) (u : Nat) (base : Option Nat) (tag : Option Consumer)
    (h : BooksBalance s) : BooksBalance (finishReading c o u base tag s).after := by
  refine handOn c u tag ?_
  rw [raiseReading_frame]
  exact h

theorem takeTotal (c : Chan) (v : Nat) (tag : Option Consumer) (h : BooksBalance s) :
    BooksBalance (takeTotal c v tag s).after := by
  unfold Machine.takeTotal
  split
  · exact h
  · exact h.finishReading ..

theorem takeDelta (c : Chan) (delta : Nat) (base : Option Nat) (tag : Option Consumer) (h : BooksBalance s) :
    BooksBalance (takeDelta c delta base tag s).after := by
  unfold Machine.takeDelta
  dsimp only
  split <;> exact h.finishReading ..

theorem settleOpenPool (c : Chan) {entries : List Entry} (hn : entries ≠ []) (h : BooksBalance s) :
    BooksBalance (settleOpenPool c entries s) :=
  h.moved (e := 0)
    { phase := rfl
      config := rfl
      pulled := fun _ ha => settle_get_of_not_mem _ (not_mem_of_isPulled ha)
      clear := settle_clear _
      metered := fun _ => settle_get_of_not_mem _ metered_not_mem
      energy := fun hs => by
        have hb := settle_energy _ hn hs
        have hp := openPools_setPool s c ⟨0, s.pools[c].closing⟩
        change (settle entries s.pools[c].opened s.openBank).energy + openPools (s.setPool c ⟨0, s.pools[c].closing⟩) = _
        dsimp only at hp
        omega }

theorem settleClosingPool (snap : Snapshot) (c : Chan) (h : BooksBalance s) :
    BooksBalance (settleClosingPool snap c s) := by
  unfold Machine.settleClosingPool
  dsimp only
  split
  · exact h
  · refine h.same ⟨rfl, rfl, rfl, fun c' => ?_⟩
    rw [State.setPool_pools, get_set]
    split
    · next hc => rw [← hc]
    · rfl

end BooksBalance

end Sys2Proof.Machine
end

section
/-! PROOF. O59: the operations of channels, slots, furnaces, intervals and locks keep the open books in balance. -/

namespace Sys2Proof.Machine

theorem restampChannels_frame (t : Nat) (s : State) :
    restampChannels t s = { s with channels := (restampChannels t s).channels } := rfl

namespace BooksBalance
variable {s : State}

theorem forEach {α : Type} {xs : List α} {f : α → State → State} (h : BooksBalance s)
    (hf : ∀ x {t : State}, BooksBalance t → BooksBalance (f x t)) : BooksBalance (forEach xs f s) :=
  forEach_keeps BooksBalance xs f (fun x _ _ => hf x) s h

/-! ## Channels and slots -/

theorem samplePulse (c : Chan) (h : BooksBalance s) : BooksBalance (samplePulse c s) := by
  unfold Machine.samplePulse
  dsimp only
  split
  · exact h.takeDelta ..
  · exact h

theorem endRun (o : ProveOutcome) (d : Int) (h : BooksBalance s) : BooksBalance (endRun o d s) := by
  rw [endRun_frame]
  exact h

theorem abortRun (c : Chan) (h : BooksBalance s) : BooksBalance (abortRun c s) := by
  rw [abortRun_frame]
  exact h

theorem sendChannel (c : Chan) (st : ChannelState) (h : BooksBalance s) : BooksBalance (sendChannel c st s) := by
  rw [sendChannel_frame]
  exact h

theorem enterStale (c : Chan) (h : BooksBalance s) : BooksBalance (enterStale c s) := by
  rw [enterStale_frame]
  exact h

theorem channelSlotLost (c : Chan) (h : BooksBalance s) : BooksBalance (channelSlotLost c s) := by
  rw [channelSlotLost_frame]
  exact h

theorem abandonPoll (c : Chan) (h : BooksBalance s) : BooksBalance (abandonPoll c s) := by
  unfold Machine.abandonPoll
  dsimp only
  split
  · split <;> exact h
  · exact h

theorem renewPolling (c : Chan) (h : BooksBalance s) : BooksBalance (renewPolling c s) := by
  rw [renewPolling_eq]
  exact h

theorem activate (c : Chan) (h : BooksBalance s) : BooksBalance (activate c s) := by
  have hs : BooksBalance (s.setChannel c { s.channels[c] with
      state := (activatedState s c).1, base := (activatedState s c).2, lastReading := s.interval.plantTime }) := h
  unfold Machine.activate
  dsimp only
  split
  · exact (hs.renewPolling c).raise _ _
  · exact hs.renewPolling c

theorem deactivate (c : Chan) (h : BooksBalance s) : BooksBalance (deactivate c s) := by
  have hs := (h.sendChannel c .inactive).abandonPoll c
  unfold Machine.deactivate
  exact renewPolling (s := State.setChannel _ c _) c hs

theorem adoptChannel (c : Chan) (old new : ChannelConfig) (h : BooksBalance s) : BooksBalance (adoptChannel c old new s) := by
  unfold Machine.adoptChannel
  split
  · exact h
  · exact h.activate c
  · exact h.deactivate c
  · split
    · exact ((h.abortRun c).abandonPoll c).activate c
    · split
      · exact h.enterStale c
      · exact h

theorem leaveReady (sl : Slot) (h : BooksBalance s) : BooksBalance (leaveReady sl s) :=
  forEach (s := s.setSlot sl _) h fun c _ ht => ht.channelSlotLost c

theorem enterReady (sl : Slot) (m : ModuleType) (h : BooksBalance s) : BooksBalance (enterReady sl m s) := by
  have frame := (enterReady_metered sl m s).frame
  exact h.same ⟨(congrArg State.phase frame :), (congrArg State.config frame :), (congrArg State.openBank frame :),
    fun c => (congrArg (fun t : State => t.pools[c].opened) frame :)⟩

theorem enterRejected (sl : Slot) (why : RejectReason) (h : BooksBalance s) : BooksBalance (enterRejected sl why s) :=
  raise (s := s.setSlot sl _) _ _ h

theorem failPoll (c : Chan) (h : BooksBalance s) : BooksBalance (failPoll c s) := by
  have hs : BooksBalance (s.setPosition c { s.position c with failed := min 3 ((s.position c).failed + 1) }) := h
  unfold Machine.failPoll
  dsimp only
  split
  · exact hs.enterStale c
  · exact hs

/-! ## Furnaces -/

theorem drain (f : Furnace) (h : BooksBalance s) : BooksBalance (drain f s) :=
  h.book (a := .furnace f .drained) (by simp [furnace_mem_iff]) rfl s.furnaces[f].inventoryMass

theorem takeCharge (f : Furnace) (serial batch cullet : Nat) (h : BooksBalance s) :
    BooksBalance (takeCharge f serial batch cullet s) := by
  have hb := h.book (a := .furnace f .melted) (by simp [furnace_mem_iff]) rfl
    (chargeMass s.config.furnaces[f].loi batch cullet)
  unfold Machine.takeCharge
  dsimp only
  split
  · exact raise (s := State.setFurnace _ f _) _ _ hb
  · exact hb

/-! ## Intervals -/

theorem beginClose (e start : Nat) (short : Bool) (h : BooksBalance s) : BooksBalance (beginClose e start short s) := by
  obtain ⟨lists, -⟩ := h
  exact zeroed rfl (fun c => by rw [beginClose_pool]) lists

theorem restampChannels (t : Nat) (h : BooksBalance s) : BooksBalance (restampChannels t s) := by
  have any (v : Vector ChannelRecord 32) : BooksBalance { s with channels := v } := h
  rw [restampChannels_frame]
  exact any _

theorem setInterval (r : IntervalRecord) (h : BooksBalance s) : BooksBalance (s.setInterval r) := h

theorem setClosingBank (b : Bank) (h : BooksBalance s) : BooksBalance (s.setClosingBank b) := h

theorem setTotals (r : Totals) (h : BooksBalance s) : BooksBalance (s.setTotals r) := h

theorem writeRecord (r : IntervalResult) (h : BooksBalance s) : BooksBalance (writeRecord r s) := h

theorem wrapPlantTime (h : BooksBalance s) : BooksBalance (wrapPlantTime s) := by
  unfold Machine.wrapPlantTime
  dsimp only
  refine restampChannels 0 (setInterval _ ?_)
  split
  · exact h.setInterval _
  · exact h.beginClose wordLimit 0 true

theorem beginWaiting (w : Waiting) (h : BooksBalance s) : BooksBalance (beginWaiting w s) := by
  cases w with
  | none => exact h
  | expiry => exact h.beginClose _ _ _
  | wrap => exact h.beginClose _ _ _

theorem endClose (k : Closing) (h : BooksBalance s) : BooksBalance (endClose k s) := by
  have settled : BooksBalance (Machine.forEach (List.finRange 32) (Machine.settleClosingPool k.snapshot) s) :=
    h.forEach fun c _ ht => ht.settleClosingPool k.snapshot c
  unfold Machine.endClose
  dsimp only
  refine beginWaiting _ (setInterval _ (forEach ?_ fun n _ ht => ht.raise _ _))
  exact (((settled.writeRecord _).setTotals _).setClosingBank _).raise _ _

theorem clearCounts (h : BooksBalance s) : BooksBalance (clearCounts s) := by
  obtain ⟨lists, -⟩ := h
  refine zeroed rfl (fun c => ?_) lists
  unfold Machine.clearCounts
  dsimp only
  rw [get_ofFn]

/-! ## Locks -/

theorem endHold (r : RegionNo) (p : Port) (h : BooksBalance s) : BooksBalance (endHold r p s) := by
  rw [endHold_frame]
  exact h

theorem dropLocks (p : Port) (h : BooksBalance s) : BooksBalance (dropLocks p s) := by
  rw [dropLocks_frame]
  exact h

theorem expireIfSilent (r : RegionNo) (h : BooksBalance s) : BooksBalance (expireIfSilent r s) := by
  rw [expireIfSilent_frame]
  exact h

/-! ## Adoption (R55, R165, R166) -/

theorem adoptFurnace (f : Furnace) (old new : FurnaceConfig) (h : BooksBalance s) :
    BooksBalance (adoptFurnace f old new s) := by
  unfold Machine.adoptFurnace
  split
  · exact h
  · exact h.drain f
  · exact h

theorem adoptLine (l : Line) (old new : LineConfig) (h : BooksBalance s) : BooksBalance (adoptLine l old new s) := by
  unfold Machine.adoptLine
  split <;> exact h

end BooksBalance

/-- A CHANNEL region that passes the checks has an entry in its list (R165). -/
theorem entries_of_channelFailure {g : Configuration} {v : ChannelConfig} (h : channelFailure g v = none) :
    v.entries ≠ [] := by
  intro he
  simp [channelFailure, failing, he] at h

/-- A line region that passes the checks has its furnace as before, or the line has drawn nothing (R165). -/
theorem feeding_of_lineFailure {s : State} {l : Line} {v : LineConfig} (h : lineFailure s l v = none) :
    v.feeding = s.config.lines[l].feeding ∨ s.openBank.get (.line l .pulled) = 0 := by
  by_cases hf : v.feeding = s.config.lines[l].feeding
  · exact .inl hf
  · simp [lineFailure, failing, -Fin.getElem_fin] at h
    obtain ⟨-, drew, -⟩ := h
    exact .inr (drew (Ne.symm hf))

theorem set_channels_lists {g : Configuration} (lists : ∀ c : Chan, g.channels[c].entries ≠ []) (c : Chan)
    {new : ChannelConfig} (hn : new.entries ≠ []) (c' : Chan) : (g.channels.set c new)[c'].entries ≠ [] := by
  rw [get_set]
  split
  · exact hn
  · exact lists c'

theorem set_lines_feeding {g : Configuration} {l : Line} {new : LineConfig} {b : Bank}
    (h : new.feeding = g.lines[l].feeding ∨ b.get (.line l .pulled) = 0) (l' : Line) :
    (g.lines.set l new)[l'].feeding = g.lines[l'].feeding ∨ b.get (.line l' .pulled) = 0 := by
  rw [get_set]
  split
  · next hl =>
    subst hl
    exact h
  · exact .inl rfl

/-- A staging copy that passes the checks keeps the balance when it is adopted. -/
theorem BooksBalance.adopt {s : State} {r : RegionNo} {v : RegionValue} (hv : validate s r v = none)
    (h : BooksBalance s) : BooksBalance (adopt r v s) := by
  obtain ⟨lists, -⟩ := id h
  unfold Machine.adopt settleBeforeAdoption adoptEffects
  unfold validate at hv
  cases hr : regionOf r <;> cases v <;> simp only [hr, Configuration.get, Configuration.put] at hv ⊢
  case channel.channel c new =>
    refine BooksBalance.adoptChannel c _ new ?_
    split
    · exact (h.settleOpenPool c (lists c)).setConfig (set_channels_lists lists c (entries_of_channelFailure hv))
        fun _ => .inl rfl
    · exact h.setConfig (set_channels_lists lists c (entries_of_channelFailure hv)) fun _ => .inl rfl
  case carrier.carrier k new => exact h.setConfig lists fun _ => .inl rfl
  case furnace.furnace f new => exact BooksBalance.adoptFurnace f _ new (h.setConfig lists fun _ => .inl rfl)
  case line.line l new =>
    exact BooksBalance.adoptLine l _ new (h.setConfig lists (set_lines_feeding (feeding_of_lineFailure hv)))
  case plant.plant new =>
    have hs := h.setConfig (g := { s.config with plant := new }) lists fun _ => .inl rfl
    split <;> exact hs
  all_goals exact h

/-! ## The start of the part (R187) -/

/-- Every region of a good image passes the checks (R186). -/
theorem lists_of_configurationSound {g : Configuration} (h : configurationSound g = true) (c : Chan) :
    g.channels[c].entries ≠ [] := by
  simp only [configurationSound, Bool.and_eq_true, List.all_eq_true, Option.isNone_iff_eq_none] at h
  obtain ⟨⟨channels, -⟩, -⟩ := h
  exact entries_of_channelFailure (channels c (List.mem_finRange c))

theorem configurationSound_of_good {i : Image} {answered : Bool} (h : i.good answered = true) :
    configurationSound i.body.configuration = true :=
  (Bool.and_eq_true_iff.mp h).2

namespace BooksBalance
variable {s : State}

/-- In STARTING nothing has been pulled, so the lines may come to other furnaces. -/
theorem adoptWhole {g : Configuration} (hs : s.phase = .starting) (hg : configurationSound g = true)
    (h : BooksBalance s) : BooksBalance (adoptWhole g s) := by
  obtain ⟨-, still, -⟩ := id h
  obtain ⟨-, lines⟩ := still hs
  have any (fs : Vector FurnaceRecord 4) (ls : Vector LineRecord 12) (iv : IntervalRecord) :
      BooksBalance { s with config := g, furnaces := fs, lines := ls, interval := iv } :=
    h.setConfig (lists_of_configurationSound hg) fun l => .inr (lines l)
  rw [adoptWhole_eq]
  refine forEach (s := opened g s) (any _ _ _) fun c t ht => ?_
  unfold startChannel
  split
  · exact ht.activate c
  · exact ht

theorem loadedState (answered : Bool) (hs : s.phase = .starting) (h : BooksBalance s) :
    BooksBalance (loadedState answered s) := by
  unfold Machine.loadedState
  split
  · next hg => exact h.adoptWhole hs (configurationSound_of_good hg)
  · have hm : BooksBalance { s with loadFailed := true } := h
    exact hm.raise _ _

/-- In RUNNING less is asked than in STARTING. -/
theorem running (due : Nat) (h : BooksBalance s) : BooksBalance { s with phase := .running, secondDue := due } := by
  obtain ⟨lists, -, balanced⟩ := h
  exact ⟨lists, nofun, balanced⟩

theorem resetOf (s : State) : BooksBalance (resetOf s) := by
  refine zeroed rfl (fun c => ?_) fun c => ?_
  · have hp : (Machine.resetOf s).pools = Vector.replicate 32 { opened := 0, closing := 0 } := rfl
    rw [hp, get_replicate]
  · have hc : (Machine.resetOf s).config.channels = Vector.replicate 32 blankChannel := rfl
    rw [hc, get_replicate]
    exact List.cons_ne_nil _ _

end BooksBalance

end Sys2Proof.Machine
end

section
/-! PROOF. O59: the requests, the rows of the link and the events keep the open books in balance. -/

namespace Sys2Proof.Machine

/-! ## Rows of the link (chapter 10) -/

/-- `t` is `s` but for the ports, the lock table and the alerts. -/
def LinkOnly (s t : State) : Prop :=
  t = { s with locks := t.locks, portLocks := t.portLocks, ports := t.ports, alerts := t.alerts }

/-- What a row of the link comes to: changes of ports, lock table and alerts, and at most one frame taken after them. -/
def LinkOutcome (s t : State) : Prop := ∃ u, LinkOnly s u ∧ (t = u ∨ ∃ p fr, t = serviceFrame p fr u)

theorem LinkOutcome.only {s t : State} (h : LinkOnly s t) : LinkOutcome s t := ⟨t, h, .inl rfl⟩

theorem LinkOutcome.taken {s u : State} (h : LinkOnly s u) (p : Port) (fr : Frame) :
    LinkOutcome s (serviceFrame p fr u) := ⟨u, h, .inr ⟨p, fr, rfl⟩⟩

theorem gatherOctet_outcome (p : Port) (got : List Octet) (s : State) : LinkOutcome s (gatherOctet p got s) := by
  unfold gatherOctet
  split
  · exact .only rfl
  · exact .only rfl
  · dsimp only
    split
    · unfold arrive
      dsimp only
      split
      · exact .taken (by rfl) p _
      · split <;> exact .only rfl
    · exact .only rfl

theorem exec_link_outcome {i : Instr} (hi : onLink i = true) {s t : State} (he : exec i s = .next t) :
    LinkOutcome s t := by
  cases i
  case octetReceived p o ok =>
    obtain rfl := Host.Outcome.next.inj he
    dsimp only
    split
    · exact .only rfl
    · split
      · exact .only rfl
      · split
        · exact .only rfl
        · exact gatherOctet_outcome p _ s
  case gapExpiry p =>
    obtain rfl := Host.Outcome.next.inj he
    split
    · exact .only rfl
    · split <;> exact .only rfl
  case lineBreak p =>
    obtain rfl := Host.Outcome.next.inj he
    dsimp only
    split
    · exact .only rfl
    · refine .only ?_
      unfold LinkOnly
      rw [dropLocks_frame]
      rfl
  case replySent p =>
    obtain rfl := Host.Outcome.next.inj he
    dsimp only
    split
    · exact .only rfl
    · split
      · exact .only rfl
      · exact .taken (by rfl) p _
  case badCommand p tag code payload =>
    obtain rfl := Host.Outcome.next.inj he
    exact .taken (by rfl) p _
  case receiveLineReturnsToMark p =>
    obtain rfl := Host.Outcome.next.inj he
    exact .only rfl
  all_goals exact absurd hi Bool.false_ne_true

/-! ## Requests that are carried out (R176) -/

/-- A request's operation is carried out in RUNNING; in STARTING nothing is, for STATUS changes nothing. -/
theorem gate_after (p : Port) (r : Request) (s : State) :
    (gate r (requestOp p r) s).after = s ∨
      s.phase = .running ∧ (gate r (requestOp p r) s).after = (requestOp p r s).after := by
  unfold gate
  split
  · exact .inl rfl
  · next h =>
    cases hp : s.phase with
    | running => exact .inr ⟨rfl, rfl⟩
    | starting =>
      obtain rfl : r = .status := by simpa [hp] using h
      exact .inl rfl

/-- A frame of command code 1 that spells a request spells STATUS. -/
theorem eq_status_of_parse {payload : List Octet} {r : Request} (h : parse 1 payload = .ok r) : r = .status := by
  cases payload with
  | nil => exact (Parsed.ok.inj h).symm
  | cons o os => cases h

theorem takeFrame_after (p : Port) (fr : Frame) (s : State) :
    (takeFrame p fr s).after = s ∨
      s.phase = .running ∧ ∃ r, (takeFrame p fr s).after = (requestOp p r s).after := by
  unfold takeFrame
  cases hparse : parse fr.code.toNat fr.payload with
  | badCommand => exact .inl rfl
  | badLength n => exact .inl (by dsimp only; split <;> rfl)
  | range => exact .inl (by dsimp only; split <;> rfl)
  | ok r =>
    dsimp only
    split
    · exact .inl rfl
    · next h =>
      cases hp : s.phase with
      | running => exact .inr ⟨rfl, r, rfl⟩
      | starting =>
        have hcode : fr.code = 1 := by simpa [hp] using h
        rw [hcode] at hparse
        obtain rfl := eq_status_of_parse hparse
        exact .inl rfl

theorem switched_lines (g : Configuration) (k : Carrier) (x : SetName) : (switched g k x).lines = g.lines := by
  simp only [switched]

namespace BooksBalance
variable {s : State}

/-! ## Requests -/

theorem setProver (x : Prover) (h : BooksBalance s) : BooksBalance (s.setProver x) := h
theorem setChannel (c : Chan) (x : ChannelRecord) (h : BooksBalance s) : BooksBalance (s.setChannel c x) := h
theorem setFurnace (f : Furnace) (x : FurnaceRecord) (h : BooksBalance s) : BooksBalance (s.setFurnace f x) := h
theorem setLine (l : Line) (x : LineRecord) (h : BooksBalance s) : BooksBalance (s.setLine l x) := h
theorem setLock (r : RegionNo) (x : LockRecord) (h : BooksBalance s) : BooksBalance (s.setLock r x) := h
theorem setPortLock (p : Port) (x : PortLock) (h : BooksBalance s) : BooksBalance (s.setPortLock p x) := h
theorem setSlot (sl : Slot) (x : SlotRecord) (h : BooksBalance s) : BooksBalance (s.setSlot sl x) := h

theorem reqMeterPost (channel value : Nat) (tag : Option Nat) (h : BooksBalance s) :
    BooksBalance (reqMeterPost channel value tag s).after := by
  unfold Machine.reqMeterPost
  split
  · dsimp only
    iterate 5 split; exact h
    dsimp only [accept_after]
    split
    · exact h.takeTotal ..
    · exact h.takeDelta ..
  · exact h

theorem reqChannelRebase (channel : Nat) (h : BooksBalance s) : BooksBalance (reqChannelRebase channel s).after := by
  unfold Machine.reqChannelRebase
  split
  · dsimp only
    split
    · exact h
    · split
      · exact (h.sendChannel _ _).setChannel ..
      · exact h
  · exact h

/-- SET_SWITCH moves sets, and leaves every entry list. -/
theorem reqSetSwitch (p : Port) (carrier set : Nat) (h : BooksBalance s) :
    BooksBalance (reqSetSwitch p carrier set s).after := by
  obtain ⟨lists, -⟩ := id h
  unfold Machine.reqSetSwitch
  split
  · exact h
  · next k _ =>
    split
    · exact h
    · dsimp only
      split
      · exact h
      · split
        · exact h
        · refine h.setConfig (fun c => ?_) fun l => .inl ?_
          · rw [switched_channel]
            split <;> exact lists c
          · rw [switched_lines]

theorem reqChargePost (furnace serial batch cullet : Nat) (h : BooksBalance s) :
    BooksBalance (reqChargePost furnace serial batch cullet s).after := by
  unfold Machine.reqChargePost
  split
  · dsimp only
    iterate 5 split; exact h
    exact h.takeCharge ..
  · exact h

theorem reqJobStart (line id gobMass gobsPerCut articleMass : Nat) (h : BooksBalance s) :
    BooksBalance (reqJobStart line id gobMass gobsPerCut articleMass s).after := by
  refine lineRequest_after line _ _ _ h fun l r st => ?_
  dsimp only
  split
  · exact h
  · split <;> exact h.setLine l _

/-- A tally is booked with the line's record replaced. -/
theorem bookTally_setLine (hr : s.phase = .running) (l : Line) (x : LineRecord) (m : TallyMasses) (h : BooksBalance s) :
    BooksBalance (Machine.bookTally l m (s.setLine l x)) :=
  bookTally (s := s.setLine l x) hr l m h

theorem tallyCurrent (hr : s.phase = .running) (l : Line) (r : LineRecord) (st : LineState) (j : Job)
    (cuts packed : Nat) (h : BooksBalance s) : BooksBalance (tallyCurrent l r st j cuts packed s).after := by
  unfold Machine.tallyCurrent
  dsimp only
  split
  · exact (h.bookTally_setLine hr l _ _).raise _ _
  · exact h.bookTally_setLine hr l _ _

theorem reqTallyPost (hr : s.phase = .running) (line id cuts packed : Nat) (h : BooksBalance s) :
    BooksBalance (reqTallyPost line id cuts packed s).after := by
  refine lineRequest_after line _ _ _ h fun l r st => ?_
  split
  · exact h
  · split
    · exact h.tallyCurrent hr l r st _ cuts packed
    · unfold tallyPrevious
      dsimp only [accept_after]
      exact h.bookTally_setLine hr l _ _
    · exact h

theorem reqLineResume (line : Nat) (h : BooksBalance s) : BooksBalance (reqLineResume line s).after := by
  refine lineRequest_after line _ _ _ h fun l r _ => ?_
  dsimp only
  generalize (if s.config.furnaces[s.config.lines[l].feeding].enabled = true then
    s.furnaces[s.config.lines[l].feeding].state else none) = feeding
  split
  · exact h
  · split
    · exact h.setLine l _
    · exact h.setLine l _
    · exact h

theorem reqTimeSet (t : Nat) (h : BooksBalance s) : BooksBalance (reqTimeSet t s).after := by
  unfold Machine.reqTimeSet
  split
  · exact h
  · split
    · exact h
    · exact ((h.beginClose _ _ _).setInterval _).restampChannels t

theorem reqIntervalRead (p : Port) (h : BooksBalance s) : BooksBalance (reqIntervalRead p s).after := by
  unfold Machine.reqIntervalRead
  dsimp only
  split <;> exact h

theorem reqCursorSet (p : Port) (place : Nat) (h : BooksBalance s) : BooksBalance (reqCursorSet p place s).after := by
  unfold Machine.reqCursorSet
  split <;> exact h

theorem reqCampaignReset (consumer : Nat) (h : BooksBalance s) : BooksBalance (reqCampaignReset consumer s).after := by
  unfold Machine.reqCampaignReset
  split
  · exact h
  · exact h.setTotals _

theorem reqClearCounts (h : BooksBalance s) : BooksBalance (reqClearCounts s).after := by
  unfold Machine.reqClearCounts
  split
  · exact h
  · exact h.clearCounts

theorem reqProveStart (p : Port) (channel duration : Nat) (h : BooksBalance s) :
    BooksBalance (reqProveStart p channel duration s).after := by
  unfold Machine.reqProveStart
  split
  · split
    · split
      · exact h
      · dsimp only
        split
        · exact (h.setChannel _ _).setProver _
        · exact h
    · exact h
  · exact h

theorem reqProveStop (h : BooksBalance s) : BooksBalance (reqProveStop s).after := by
  unfold Machine.reqProveStop
  split
  · exact h
  · exact h.endRun ..

theorem touch (r : RegionNo) (x : Hold) (h : BooksBalance s) : BooksBalance (touch r x s) := h.setLock ..

theorem reqProveApply (p : Port) (channel : Nat) (h : BooksBalance s) :
    BooksBalance (reqProveApply p channel s).after := by
  unfold Machine.reqProveApply
  split
  · dsimp only
    split
    · exact h
    · split
      · split
        · exact h.touch ..
        · split <;> exact h.touch ..
      · split <;> exact h.touch ..
  · exact h

theorem reqLock (p : Port) (region mode : Nat) (h : BooksBalance s) : BooksBalance (reqLock p region mode s).after := by
  unfold Machine.reqLock
  split
  · split
    · exact h
    · dsimp only
      split
      · exact h
      · exact h
      · split
        · exact (h.setLock ..).setPortLock ..
        · split
          · exact h
          · exact (h.setLock ..).setPortLock ..
  · exact h

theorem reqLockCancel (p : Port) (h : BooksBalance s) : BooksBalance (reqLockCancel p s).after := by
  unfold Machine.reqLockCancel
  split
  · exact (h.setLock ..).setPortLock ..
  · exact h

theorem reqStageWrite (p : Port) (region field : Nat) (value : StageValue) (h : BooksBalance s) :
    BooksBalance (reqStageWrite p region field value s).after := by
  unfold Machine.reqStageWrite
  split
  · dsimp only
    split
    · exact h
    · split
      · exact h
      · split
        · exact h
        · split <;> exact h.touch ..
  · exact h

theorem reqConfigRead (p : Port) (region which : Nat) (h : BooksBalance s) :
    BooksBalance (reqConfigRead p region which s).after := by
  unfold Machine.reqConfigRead
  split
  · split
    · exact h
    · dsimp only
      split
      · exact h.touch ..
      · split <;> exact h
  · exact h

/-- RELEASE adopts only what has passed the checks. -/
theorem reqRelease (p : Port) (action : Nat) (h : BooksBalance s) : BooksBalance (reqRelease p action s).after := by
  unfold Machine.reqRelease
  split
  · exact h
  · split
    · exact h
    · split
      · exact h.endHold _ p
      · split
        · exact h.endHold _ p
        · split
          · exact h.endHold _ p
          · next hv =>
            have ht (r : RegionNo) := (h.adopt hv).endHold r p
            dsimp only [accept_after]
            unfold applyTimeout
            split
            · exact ht _
            · exact (ht _).forEach fun r _ hu => hu.expireIfSilent r

theorem reqAlertRead (p : Port) (h : BooksBalance s) : BooksBalance (reqAlertRead p s).after := by
  unfold Machine.reqAlertRead
  dsimp only
  split
  · exact h
  · dsimp only [accept_after]
    split <;> exact h

theorem reqAlertClear (p : Port) (n : Nat) (h : BooksBalance s) : BooksBalance (reqAlertClear p n s).after := by
  unfold Machine.reqAlertClear
  split <;> exact h

theorem reqAlertMask (p : Port) (m : Nat) (h : BooksBalance s) : BooksBalance (reqAlertMask p m s).after := by
  unfold Machine.reqAlertMask
  split <;> exact h

theorem reqSave (h : BooksBalance s) : BooksBalance (reqSave s).after := by
  unfold Machine.reqSave
  split <;> exact h

/-- Every request that is carried out keeps the balance. -/
theorem request (hr : s.phase = .running) (p : Port) (r : Request) (h : BooksBalance s) :
    BooksBalance (requestOp p r s).after := by
  cases r with
  | status => exact h
  | meterPost c v t => exact h.reqMeterPost c v t
  | channelRead c => exact (reqChannelRead_after c s).symm ▸ h
  | channelRebase c => exact h.reqChannelRebase c
  | setSwitch n x => exact h.reqSetSwitch p n x
  | slotRead n => exact (reqSlotRead_after n s).symm ▸ h
  | liveRead n => exact (reqLiveRead_after n s).symm ▸ h
  | chargePost f n b x => exact h.reqChargePost f n b x
  | furnaceHold f => exact furnaceRequest_after f _ _ _ _ h fun f => h.setFurnace f _
  | furnaceResume f => exact furnaceRequest_after f _ _ _ _ h fun f => h.setFurnace f _
  | furnaceShutdown f => exact furnaceRequest_after f _ _ _ _ h fun f => (h.drain f).setFurnace f _
  | furnaceWarm f => exact furnaceRequest_after f _ _ _ _ h fun f => h.setFurnace f _
  | queueRead f n => exact (reqQueueRead_after f n s).symm ▸ h
  | jobStart l j g n a => exact h.reqJobStart l j g n a
  | jobReady l => exact lineRequest_after l _ _ _ h fun l _ _ => h.setLine l _
  | tallyPost l j c x => exact h.reqTallyPost hr l j c x
  | lineHold l => exact lineRequest_after l _ _ _ h fun l _ _ => h.setLine l _
  | lineResume l => exact h.reqLineResume l
  | lineShutdown l => exact lineRequest_after l _ _ _ h fun l _ _ => h.setLine l _
  | lineWarm l => exact lineRequest_after l _ _ _ h fun l _ _ => h.setLine l _
  | stateRead l => exact (reqStateRead_after l s).symm ▸ h
  | timeSet n => exact h.reqTimeSet n
  | intervalRead => exact h.reqIntervalRead p
  | intervalReadAt n => exact (reqIntervalReadAt_after n s).symm ▸ h
  | cursorSet n => exact h.reqCursorSet p n
  | totalsRead n => exact (reqTotalsRead_after n s).symm ▸ h
  | campaignReset n => exact h.reqCampaignReset n
  | clearCounts => exact h.reqClearCounts
  | proveStart c d => exact h.reqProveStart p c d
  | proveStop => exact h.reqProveStop
  | proveApply c => exact h.reqProveApply p c
  | lock r m => exact h.reqLock p r m
  | lockCancel => exact h.reqLockCancel p
  | stageWrite r n v => exact h.reqStageWrite p r n v
  | configRead r w => exact h.reqConfigRead p r w
  | release a => exact h.reqRelease p a
  | alertRead => exact h.reqAlertRead p
  | alertClear a => exact h.reqAlertClear p a
  | alertMask a => exact h.reqAlertMask p a
  | save => exact h.reqSave

/-! ## Rows that are requests, and the rows of the link -/

theorem answer (p : Port) (fr : Frame) {t : Taken} (h : BooksBalance t.after) : BooksBalance (answer p fr t) := h

theorem serve (p : Port) (tag : Octet) (r : Request) (h : BooksBalance s) :
    BooksBalance (serve p tag r (requestOp p r) s) := by
  refine answer p _ ?_
  rcases gate_after p r s with he | ⟨hr, he⟩
  · rw [he]
    exact h
  · rw [he]
    exact h.request hr p r

theorem serviceFrame (p : Port) (fr : Frame) (h : BooksBalance s) : BooksBalance (serviceFrame p fr s) := by
  refine answer p fr ?_
  rcases takeFrame_after p fr s with he | ⟨hr, r, he⟩
  · rw [he]
    exact h
  · rw [he]
    exact h.request hr p r

theorem linkOutcome {t : State} (h : BooksBalance s) (ho : LinkOutcome s t) : BooksBalance t := by
  obtain ⟨u, only, taken⟩ := ho
  have hu : BooksBalance u := by
    rw [only]
    exact h
  rcases taken with rfl | ⟨p, fr, rfl⟩
  · exact hu
  · exact hu.serviceFrame p fr

/-! ## Events -/

section
variable {t : State} (h : BooksBalance s)
include h

theorem configLoadDone {answered : Bool} (he : exec (.configLoadDone answered) s = .next t) : BooksBalance t := by
  obtain rfl := Host.Outcome.next.inj he
  split
  · next hs => exact (h.loadedState answered hs).running _
  · exact h

theorem passSecond : BooksBalance (passSecond s) := h

theorem plantTimeTick (he : exec .plantTimeTick s = .next t) : BooksBalance t := by
  obtain rfl := Host.Outcome.next.inj he
  split
  · dsimp only
    split
    · exact h.passSecond.setInterval _
    · exact h.passSecond.wrapPlantTime
  · exact h

theorem plantTimeWrap (he : exec .plantTimeWrap s = .next t) : BooksBalance t := by
  obtain rfl := Host.Outcome.next.inj he
  split
  · exact h.passSecond.wrapPlantTime
  · exact h

theorem intervalExpiry (he : exec .intervalExpiry s = .next t) : BooksBalance t := by
  obtain rfl := Host.Outcome.next.inj he
  split
  · split
    · exact h.setInterval _
    · exact h.beginClose _ _ _
  · exact h

theorem presenceChange {sl : Slot} {a b : Bool} (he : exec (.presenceChange sl a b) s = .next t) :
    BooksBalance t := by
  obtain rfl := Host.Outcome.next.inj he
  dsimp only
  split
  · exact h
  · split
    · exact (h.setSlot sl _).leaveReady sl
    · exact h.setSlot sl _

theorem codeLineChange {sl : Slot} {k1 k2 : Bool} (he : exec (.codeLineChange sl k1 k2) s = .next t) :
    BooksBalance t := by
  obtain rfl := Host.Outcome.next.inj he
  dsimp only
  split
  · exact h
  · exact h.setSlot sl _

theorem settleTimerExpiry {sl : Slot} (he : exec (.settleTimerExpiry sl) s = .next t) : BooksBalance t := by
  obtain rfl := Host.Outcome.next.inj he
  have hs := h.setSlot sl { s.slots[sl] with settleDue := none }
  dsimp only
  split
  · split
    · exact hs.enterReady sl _
    · exact hs.enterReady sl _
    · exact hs.enterReady sl _
    · exact hs.enterRejected sl _
    · exact hs.setSlot sl _
    · split
      · exact hs.enterRejected sl _
      · exact hs
  · exact h

theorem partialTimerExpiry {sl : Slot} (he : exec (.partialTimerExpiry sl) s = .next t) : BooksBalance t := by
  obtain rfl := Host.Outcome.next.inj he
  have hs := h.setSlot sl { s.slots[sl] with partialDue := none }
  dsimp only
  split
  · split
    · exact hs.enterRejected sl _
    · exact hs
  · exact h

theorem pulseSample (he : exec .pulseSample s = .next t) : BooksBalance t := by
  obtain rfl := Host.Outcome.next.inj he
  have hs : BooksBalance { s.reach s.sampleDue with sampleDue := s.sampleDue + 1000 } := h
  refine hs.forEach fun c u hu => ?_
  split
  · exact hu.samplePulse c
  · exact hu

theorem pollReply {poll : PollRef} {ok : Bool} {address value : Nat}
    (he : exec (.pollReply poll ok address value) s = .next t) : BooksBalance t := by
  obtain rfl := Host.Outcome.next.inj he
  have hs := h.setSlot poll.slot { s.slots[poll.slot] with poll := none }
  dsimp only
  split
  · exact h
  · split
    · split
      · exact takeTotal (s := State.setPosition _ _ _) _ _ _ hs
      · exact hs.failPoll _
    · exact h

theorem replyLimitExpiry {sl : Slot} (he : exec (.replyLimitExpiry sl) s = .next t) : BooksBalance t := by
  obtain rfl := Host.Outcome.next.inj he
  split
  · exact h
  · split
    · exact (h.setSlot sl { s.slots[sl] with poll := none }).failPoll _
    · exact h

theorem proveExpiry (he : exec .proveExpiry s = .next t) : BooksBalance t := by
  obtain rfl := Host.Outcome.next.inj he
  split
  · exact h
  · dsimp only
    split
    · exact h.endRun ..
    · exact h

theorem holdTimerExpiry {l : Line} (he : exec (.holdTimerExpiry l) s = .next t) : BooksBalance t := by
  obtain rfl := Host.Outcome.next.inj he
  dsimp only
  split
  · exact ((h.setLine l _).raise _ _).raise _ _
  · exact h

theorem saveAccessTimeout (he : exec .saveAccessTimeout s = .next t) : BooksBalance t := by
  obtain rfl := Host.Outcome.next.inj he
  split
  · exact h
  · split
    · have hs : BooksBalance { s with save := none, image := { s.image with format := 0 } } := h
      exact hs.raise _ _
    · exact h

/-- Every event keeps the balance. -/
theorem event {i : Instr} (he : exec i s = .next t) (hr : i.asRequest = none) (hl : onLink i = false) :
    BooksBalance t := by
  cases i
  case hardwareReset =>
    obtain rfl := Host.Outcome.next.inj ((exec_hardwareReset s).symm.trans he)
    exact resetOf s
  case configLoadDone => exact h.configLoadDone he
  case plantTimeTick => exact h.plantTimeTick he
  case plantTimeWrap => exact h.plantTimeWrap he
  case intervalExpiry => exact h.intervalExpiry he
  case closingPoolSettle c =>
    obtain rfl := Host.Outcome.next.inj he
    split
    · exact h
    · exact h.settleClosingPool _ c
  case closeEnd =>
    obtain rfl := Host.Outcome.next.inj he
    split
    · exact h
    · exact h.endClose _
  case presenceChange => exact h.presenceChange he
  case codeLineChange => exact h.codeLineChange he
  case settleTimerExpiry => exact h.settleTimerExpiry he
  case partialTimerExpiry => exact h.partialTimerExpiry he
  case pulseInput =>
    obtain rfl := Host.Outcome.next.inj he
    dsimp only
    split <;> exact h
  case pulseSample => exact h.pulseSample he
  case pollStart =>
    obtain rfl := Host.Outcome.next.inj he
    split <;> exact h
  case pollReply => exact h.pollReply he
  case replyLimitExpiry => exact h.replyLimitExpiry he
  case staleTimeExpiry c =>
    obtain rfl := Host.Outcome.next.inj he
    split
    · exact h.enterStale c
    · exact h
  case referencePulse =>
    obtain rfl := Host.Outcome.next.inj he
    split <;> exact h
  case proveExpiry => exact h.proveExpiry he
  case holdTimerExpiry => exact h.holdTimerExpiry he
  case lockExpiry r =>
    obtain rfl := Host.Outcome.next.inj he
    exact h.expireIfSilent r
  case saveWriteAcknowledged =>
    obtain rfl := Host.Outcome.next.inj he
    split
    · exact h
    · dsimp only
      split <;> exact h
  case saveAccessTimeout => exact h.saveAccessTimeout he
  all_goals revert hr hl; exact nofun

/-- Every command keeps the balance. -/
theorem exec {i : Instr} (he : Machine.exec i s = .next t) : BooksBalance t := by
  cases hr : i.asRequest with
  | some q =>
    obtain ⟨p, tag, r⟩ := q
    obtain rfl := Host.Outcome.next.inj ((exec_request hr s).symm.trans he)
    exact h.serve p tag r
  | none =>
    cases hl : onLink i with
    | true => exact h.linkOutcome (exec_link_outcome hl he)
    | false => exact h.event he hr hl

end

end BooksBalance

/-- Settles O59: every command keeps the balance, and neither the queue nor the own clock is part of it. -/
theorem stepKeepsTheBalance : Obligations.StepKeepsTheBalance := fun _ _ h ht =>
  step_keeps (P := BooksBalance) (fun _ _ h => h) (fun _ _ h => h) (fun _ _ _ h he => h.exec he) h ht

end Sys2Proof.Machine
end

section
/-! PROOF. O33: what a draw takes from a melt inventory queue, and what it books. -/

namespace Sys2Proof.Machine

/-! ## A draw from a queue (R78, R79) -/

/-- A record from which a part has been drawn: the mass, and the cullet in proportion (R78). -/
def Charge.drawn (r : Charge) (x : Nat) : Charge :=
  { r with remainingMass := r.remainingMass - x,
           remainingCullet := r.remainingCullet - x * r.remainingCullet / r.remainingMass }

theorem Charge.drawn_zero (r : Charge) : r.drawn 0 = r := by simp [Charge.drawn]

/-- The oldest record holds more than is drawn, and stays. -/
theorem drawQueue_part {x : Nat} {r : Charge} (h : x < r.remainingMass) (last : Nat) (rest : List Charge) :
    drawQueue last x (r :: rest) =
      ⟨r.drawn x :: rest, 0, x * r.remainingCullet / r.remainingMass, last⟩ := by
  unfold drawQueue
  split
  · next hx => subst hx; simp [Charge.drawn_zero]
  · rfl

/-- The oldest record is drawn whole, and the rest of the draw goes to the next (R78, R79). -/
theorem drawQueue_whole {x : Nat} {r : Charge} (hr : 0 < r.remainingMass) (h : r.remainingMass ≤ x) (last : Nat)
    (rest : List Charge) :
    drawQueue last x (r :: rest) =
      { drawQueue (r.originalCullet * 1000 / r.originalMass) (x - r.remainingMass) rest with
        cullet := r.remainingCullet +
          (drawQueue (r.originalCullet * 1000 / r.originalMass) (x - r.remainingMass) rest).cullet } := by
  rw [drawQueue, if_neg (by omega), if_neg (by omega)]

/-- The cullet drawn with a part of a record is no more than the record holds. -/
theorem part_cullet_le {x : Nat} {r : Charge} (h : x < r.remainingMass) :
    x * r.remainingCullet / r.remainingMass ≤ r.remainingCullet :=
  Nat.div_le_of_le_mul (Nat.mul_le_mul_right _ h.le)

/-- The mass that the records of a queue hold. -/
def massOf (l : List Charge) : Nat := (l.map Charge.remainingMass).sum
/-- The cullet that the records of a queue hold. -/
def culletOf (l : List Charge) : Nat := (l.map Charge.remainingCullet).sum

@[simp] theorem massOf_nil : massOf [] = 0 := rfl
@[simp] theorem massOf_cons (r : Charge) (l : List Charge) : massOf (r :: l) = r.remainingMass + massOf l := rfl
@[simp] theorem culletOf_nil : culletOf [] = 0 := rfl
@[simp] theorem culletOf_cons (r : Charge) (l : List Charge) : culletOf (r :: l) = r.remainingCullet + culletOf l := rfl

/-- Every record holds some mass and no more than it began with (R75). -/
def Stocked (l : List Charge) : Prop := ∀ r ∈ l, 0 < r.remainingMass ∧ r.remainingMass ≤ r.originalMass

theorem Stocked.head {r : Charge} {l : List Charge} (h : Stocked (r :: l)) : 0 < r.remainingMass :=
  (h r (List.mem_cons_self ..)).1

theorem Stocked.tail {r : Charge} {l : List Charge} (h : Stocked (r :: l)) : Stocked l :=
  fun q hq => h q (List.mem_cons_of_mem r hq)

section
variable {queue : List Charge}

theorem drawQueue_mass (last m : Nat) (h : Stocked queue) :
    (drawQueue last m queue).unbacked = m - massOf queue ∧
      massOf (drawQueue last m queue).queue + (m - (drawQueue last m queue).unbacked) = massOf queue := by
  induction queue generalizing last m with
  | nil => simp [drawQueue]
  | cons r rest ih =>
    rcases Nat.lt_or_ge m r.remainingMass with hm | hm
    · simp only [drawQueue_part hm, massOf_cons, Charge.drawn]
      omega
    · obtain ⟨unbacked, mass⟩ := ih (r.originalCullet * 1000 / r.originalMass) (m - r.remainingMass) h.tail
      simp only [drawQueue_whole h.head hm, massOf_cons]
      omega

theorem drawQueue_cullet (last m : Nat) (h : Stocked queue) :
    (drawQueue last m queue).cullet + culletOf (drawQueue last m queue).queue = culletOf queue := by
  induction queue generalizing last m with
  | nil => rfl
  | cons r rest ih =>
    rcases Nat.lt_or_ge m r.remainingMass with hm | hm
    · have hk := part_cullet_le hm
      simp only [drawQueue_part hm, culletOf_cons, Charge.drawn]
      omega
    · have := ih (r.originalCullet * 1000 / r.originalMass) (m - r.remainingMass) h.tail
      simp only [drawQueue_whole h.head hm, culletOf_cons]
      omega

theorem drawQueue_empty (last m : Nat) (h : Stocked queue) (hu : 0 < (drawQueue last m queue).unbacked) :
    (drawQueue last m queue).queue = [] := by
  induction queue generalizing last m with
  | nil => rfl
  | cons r rest ih =>
    rcases Nat.lt_or_ge m r.remainingMass with hm | hm
    · rw [drawQueue_part hm] at hu
      exact absurd hu (Nat.lt_irrefl 0)
    · rw [drawQueue_whole h.head hm] at hu ⊢
      exact ih _ _ h.tail hu

/-- No record holds more cullet than glass. -/
def Glassy (l : List Charge) : Prop := ∀ r ∈ l, r.remainingCullet ≤ r.remainingMass

/-- The share of `m` parts that `x` of them hold of `k` is short of `k` by no more than the parts that are left. -/
theorem sub_mul_le {x m k : Nat} (hx : x < m) (hk : k ≤ m) : (k - (m - x)) * m ≤ x * k := by
  rcases Nat.le_total k (m - x) with h | h
  · rw [Nat.sub_eq_zero_of_le h, Nat.zero_mul]
    exact Nat.zero_le _
  · obtain ⟨z, rfl⟩ := Nat.exists_eq_add_of_le h
    obtain ⟨y, rfl⟩ := Nat.exists_eq_add_of_lt hx
    have hz : z ≤ x := by omega
    have hm : x + y + 1 - x = y + 1 := by omega
    calc (x + y + 1 - x + z - (x + y + 1 - x)) * (x + y + 1)
        = x * z + (y + 1) * z := by rw [Nat.add_sub_cancel_left]; ring
      _ ≤ x * z + (y + 1) * x := by gcongr
      _ = x * (x + y + 1 - x + z) := by rw [hm]; ring

/-- A part of a record holds no more cullet than glass if the record does not: what is drawn, and what is left. -/
theorem part_glassy {x : Nat} {r : Charge} (h : x < r.remainingMass) (hk : r.remainingCullet ≤ r.remainingMass) :
    x * r.remainingCullet / r.remainingMass ≤ x ∧ (r.drawn x).remainingCullet ≤ (r.drawn x).remainingMass := by
  have drawn : x * r.remainingCullet / r.remainingMass ≤ x :=
    Nat.div_le_of_le_mul (by rw [Nat.mul_comm r.remainingMass]; exact Nat.mul_le_mul_left x hk)
  refine ⟨drawn, ?_⟩
  have left : r.remainingCullet - (r.remainingMass - x) ≤ x * r.remainingCullet / r.remainingMass :=
    (Nat.le_div_iff_mul_le (by omega)).mpr (sub_mul_le h hk)
  simp only [Charge.drawn]
  omega

theorem drawQueue_cullet_le (last m : Nat) (h : Stocked queue) (hg : Glassy queue) :
    (drawQueue last m queue).cullet ≤ m - (drawQueue last m queue).unbacked := by
  induction queue generalizing last m with
  | nil => exact Nat.zero_le _
  | cons r rest ih =>
    have hk := hg r (List.mem_cons_self ..)
    rcases Nat.lt_or_ge m r.remainingMass with hm | hm
    · rw [drawQueue_part hm]
      exact (part_glassy hm hk).1
    · have hc := ih (r.originalCullet * 1000 / r.originalMass) (m - r.remainingMass) h.tail
        fun q hq => hg q (List.mem_cons_of_mem r hq)
      simp only [drawQueue_whole h.head hm]
      have hu := (drawQueue_mass (r.originalCullet * 1000 / r.originalMass) (m - r.remainingMass) h.tail).1
      omega

/-- Every record that a draw leaves is one of the queue, drawn in part if at all. -/
theorem mem_drawQueue {last m : Nat} (h : Stocked queue) {q : Charge} (hq : q ∈ (drawQueue last m queue).queue) :
    ∃ r ∈ queue, ∃ x < r.remainingMass, q = r.drawn x := by
  induction queue generalizing last m with
  | nil => exact absurd hq List.not_mem_nil
  | cons r rest ih =>
    rcases Nat.lt_or_ge m r.remainingMass with hm | hm
    · rw [drawQueue_part hm] at hq
      rcases List.mem_cons.mp hq with rfl | hq
      · exact ⟨r, List.mem_cons_self .., m, hm, rfl⟩
      · exact ⟨q, List.mem_cons_of_mem r hq, 0, (h.tail q hq).1, q.drawn_zero.symm⟩
    · rw [drawQueue_whole h.head hm] at hq
      obtain ⟨r', hr', hx⟩ := ih h.tail hq
      exact ⟨r', List.mem_cons_of_mem r hr', hx⟩

theorem drawQueue_glassy (last m : Nat) (h : Stocked queue) (hg : Glassy queue) :
    Glassy (drawQueue last m queue).queue := by
  intro q hq
  obtain ⟨r, hr, x, hx, rfl⟩ := mem_drawQueue h hq
  exact (part_glassy hx (hg r hr)).2

/-- What a draw leaves of a queue: the records but for the `gone` oldest, the first of them perhaps drawn in part; and
the last cullet permille is that of the last record removed (R79). -/
def LeftOf (last : Nat) (queue : List Charge) (d : Drawn) (gone : Nat) : Prop :=
  gone ≤ queue.length ∧
  (d.queue = queue.drop gone ∨
    ∃ r rest x, queue.drop gone = r :: rest ∧ 0 < x ∧ x < r.remainingMass ∧ d.queue = r.drawn x :: rest) ∧
  d.lastCullet =
    match (queue.take gone).getLast? with
    | some r => r.originalCullet * 1000 / r.originalMass
    | none => last

theorem drawQueue_left (last m : Nat) (h : Stocked queue) :
    ∃ gone, LeftOf last queue (drawQueue last m queue) gone := by
  induction queue generalizing last m with
  | nil => exact ⟨0, Nat.le_refl 0, .inl rfl, rfl⟩
  | cons r rest ih =>
    rcases Nat.lt_or_ge m r.remainingMass with hm | hm
    · refine ⟨0, Nat.zero_le _, ?_, by rw [drawQueue_part hm]; rfl⟩
      rw [drawQueue_part hm]
      rcases Nat.eq_zero_or_pos m with rfl | hp
      · exact .inl (by rw [Charge.drawn_zero]; rfl)
      · exact .inr ⟨r, rest, m, rfl, hp, hm, rfl⟩
    · obtain ⟨gone, hle, hq, hlast⟩ := ih (r.originalCullet * 1000 / r.originalMass) (m - r.remainingMass) h.tail
      rw [drawQueue_whole h.head hm]
      refine ⟨gone + 1, Nat.succ_le_succ hle, hq, hlast.trans ?_⟩
      rw [List.take_succ_cons, List.getLast?_cons]
      cases (rest.take gone).getLast? <;> rfl

end

/-! ## A draw on a furnace (R77, R80) -/

/-- A furnace's record after a draw of a mass. -/
def FurnaceRecord.drawn (r : FurnaceRecord) (m : Nat) : FurnaceRecord :=
  let d := drawQueue r.lastCullet m r.queue
  { r with queue := d.queue, lastCullet := d.lastCullet, inventoryMass := r.inventoryMass - (m - d.unbacked),
           inventoryCullet := r.inventoryCullet - d.cullet }

/-- The open bank after a draw: the mass, what was unbacked of it and its cullet are booked (R77, R80). -/
def drawnBank (f : Furnace) (m : Nat) (s : State) : Bank :=
  let d := drawQueue s.furnaces[f].lastCullet m s.furnaces[f].queue
  s.openBank.booked (drawParts f m d.unbacked (d.cullet + d.unbacked * d.lastCullet / 1000))

/-- The part in which a mass is drawn, before INVENTORY_SHORT. -/
def drawnFrom (f : Furnace) (m : Nat) (s : State) : State :=
  (s.setOpenBank (drawnBank f m s)).setFurnace f (s.furnaces[f].drawn m)

theorem draw_eq (f : Furnace) (m : Nat) (s : State) :
    draw f m s =
      if 0 < (drawQueue s.furnaces[f].lastCullet m s.furnaces[f].queue).unbacked then
        raise .inventoryShort (some f.val) (drawnFrom f m s)
      else drawnFrom f m s := rfl

/-- The three accumulators that a draw books to, and the saturated mark after it (R41, R77). -/
theorem booked_drawParts (f : Furnace) (m u k : Nat) (b : Bank) :
    (b.booked (drawParts f m u k)).get (.furnace f .pulled) = satAdd bankLimit (b.get (.furnace f .pulled)) m ∧
    (b.booked (drawParts f m u k)).get (.furnace f .unbacked) = satAdd bankLimit (b.get (.furnace f .unbacked)) u ∧
    (b.booked (drawParts f m u k)).get (.furnace f .cullet) = satAdd bankLimit (b.get (.furnace f .cullet)) k ∧
    (b.booked (drawParts f m u k)).saturated =
      (b.saturated || satOver bankLimit (b.get (.furnace f .pulled)) m ||
        satOver bankLimit (b.get (.furnace f .unbacked)) u || satOver bankLimit (b.get (.furnace f .cullet)) k) := by
  simp only [drawParts, Bank.booked, List.foldl_cons, List.foldl_nil, Bank.get_add, Bank.add_saturated, reduceCtorEq,
    Account.furnace.injEq, and_false, if_true, if_false, true_and]
  simp only [Bool.or_right_comm b.saturated]

theorem drawnBank_get_of_ne (f : Furnace) (m : Nat) (s : State) {a : Account} (hp : a ≠ .furnace f .pulled)
    (hu : a ≠ .furnace f .unbacked) (hk : a ≠ .furnace f .cullet) : (drawnBank f m s).get a = s.openBank.get a := by
  refine Bank.booked_get_of_not_mem (fun x hx => ?_) _
  simp only [drawParts, List.mem_cons, List.not_mem_nil, or_false] at hx
  rcases hx with rfl | rfl | rfl
  · exact hu.symm
  · exact hp.symm
  · exact hk.symm

/-- Settles O33: the queue by induction on its records, the furnace by its three bookings. -/
theorem drawTakesOldestFirst : Obligations.DrawTakesOldestFirst := by
  refine ⟨fun m last queue h => ?_, fun f m s => ?_⟩
  · obtain ⟨unbacked, mass⟩ := drawQueue_mass last m h
    refine ⟨unbacked, mass, drawQueue_cullet last m h, drawQueue_empty last m h, fun hg => ?_, drawQueue_left last m h⟩
    exact ⟨drawQueue_cullet_le last m h hg, drawQueue_glassy last m h hg⟩
  · obtain ⟨pulled, unbacked, cullet, saturated⟩ := booked_drawParts f m _ _ s.openBank
    refine ⟨drawnBank f m s, pulled, unbacked, cullet, fun a => drawnBank_get_of_ne f m s, saturated, fun h => ?_,
      fun h => ?_⟩
    · exact (draw_eq f m s).trans (if_neg (by omega))
    · exact (draw_eq f m s).trans (if_pos h)

end Sys2Proof.Machine
end

section
/-! PROOF. O30 and O31: the state requests of a furnace. -/

namespace Sys2Proof.Machine

/-- In RUNNING a request whose operation is taken is answered with OK and the state after it. -/
theorem serve_accept {p : Port} {tag : Octet} {r : Request} {op : State → Taken} {s t : State} {pl : List Octet}
    (hr : s.phase = .running) (h : op s = accept t pl) : serve p tag r op s = replied p tag r .ok pl t := by
  rw [serve_running p tag r op hr, h]
  rfl

/-! ## The lines that a furnace feeds (R65) -/

theorem feeds_iff (s : State) (f : Furnace) (l : Line) :
    feeds s f l = true ↔ s.config.lines[l].enabled = true ∧ s.config.lines[l].feeding = f := by
  simp [feeds]

theorem blocksHold_iff (st : Option LineState) :
    blocksHold st = true ↔ st = some .producing ∨ st = some .jobChange ∨ st = some .holdPending := by
  rcases st with _ | st
  · simp [blocksHold]
  · cases st <;> simp [blocksHold, LineState.working]

theorem blocksShutdown_iff (st : Option LineState) : blocksShutdown st = true ↔ st ≠ some .cold := by
  simp [blocksShutdown]

/-- A line is fed by a furnace and its state fails a condition. -/
def Blocks (s : State) (f : Furnace) (bad : Option LineState → Bool) (l : Line) : Prop :=
  feeds s f l = true ∧ bad s.lines[l].state = true

theorem firstLine_none {s : State} {f : Furnace} {bad : Option LineState → Bool} :
    firstLine s f bad = none ↔ ∀ l, ¬ Blocks s f bad l := by
  simp [firstLine, Blocks]

theorem firstLine_some {s : State} {f : Furnace} {bad : Option LineState → Bool} {l : Line} (hl : Blocks s f bad l)
    (first : ∀ l', l' < l → ¬ Blocks s f bad l') : firstLine s f bad = some l := by
  have at_iff (l' : Line) : (feeds s f l' && bad s.lines[l'].state) = true ↔ Blocks s f bad l' := Bool.and_eq_true_iff
  rw [firstLine, List.find?_eq_findSome?_guard]
  refine findSome?_of_first _ l (Option.guard_eq_some_iff.mpr ⟨rfl, (at_iff l).mpr hl⟩) _ (List.pairwise_lt_finRange 12)
    (List.mem_finRange l) fun l' hlt => Option.guard_eq_none_iff.mpr ?_
  exact Bool.eq_false_iff.mpr fun h => first l' hlt ((at_iff l').mp h)

/-! ## The four state requests (R64 to R70) -/

section
variable {source target : FurnaceState} {bad : Option LineState → Bool} {effect : Furnace → State → State} {s : State}

theorem furnaceRequest_range {n : Nat} (h : 3 < n) :
    furnaceRequest n source target bad effect s = refuse s .range := dif_neg (by omega)

variable {f : Furnace}

theorem furnaceRequest_disabled (h : s.config.furnaces[f].enabled = false) :
    furnaceRequest f.val source target bad effect s = refuse s .notConfigured :=
  (dif_pos f.isLt).trans (if_neg (Bool.eq_false_iff.mp h))

theorem furnaceRequest_absent (h : s.config.furnaces[f].enabled = true) (hst : s.furnaces[f].state = none) :
    furnaceRequest f.val source target bad effect s = refuse s .wrongState (octets 1 0) := by
  unfold furnaceRequest
  rw [dif_pos f.isLt]
  dsimp only [Fin.eta]
  rw [if_pos h, hst]

/-- A request for an enabled furnace, after the checks of its number and its region. -/
theorem furnaceRequest_enabled {st : FurnaceState} (h : s.config.furnaces[f].enabled = true)
    (hst : s.furnaces[f].state = some st) :
    furnaceRequest f.val source target bad effect s =
      if st = source then
        (firstLine s f bad).elim
          (accept ((effect f s).setFurnace f { (effect f s).furnaces[f] with state := some target })
            (octets 1 target.code))
          (linesActive s)
      else refuse s .wrongState (octets 1 st.code) := by
  unfold furnaceRequest
  rw [dif_pos f.isLt]
  dsimp only [Fin.eta]
  rw [if_pos h, hst]
  dsimp only
  split
  · cases firstLine s f bad <;> rfl
  · rfl

theorem furnaceRequest_wrongState {st : FurnaceState} (h : s.config.furnaces[f].enabled = true)
    (hst : s.furnaces[f].state = some st) (hn : st ≠ source) :
    furnaceRequest f.val source target bad effect s = refuse s .wrongState (octets 1 st.code) :=
  (furnaceRequest_enabled h hst).trans (if_neg hn)

theorem furnaceRequest_blocked {l : Line} {st : LineState} (h : s.config.furnaces[f].enabled = true)
    (hst : s.furnaces[f].state = some source) (hb : Blocks s f bad l) (first : ∀ l', l' < l → ¬ Blocks s f bad l')
    (hl : s.lines[l].state = some st) :
    furnaceRequest f.val source target bad effect s =
      refuse s .linesActive (octets 1 l.val ++ octets 1 st.code) := by
  rw [furnaceRequest_enabled h hst, if_pos rfl, firstLine_some hb first, Option.elim_some, linesActive, hl]
  rfl

theorem furnaceRequest_taken (h : s.config.furnaces[f].enabled = true) (hst : s.furnaces[f].state = some source)
    (hb : ∀ l, ¬ Blocks s f bad l) :
    furnaceRequest f.val source target bad effect s =
      accept ((effect f s).setFurnace f { (effect f s).furnaces[f] with state := some target })
        (octets 1 target.code) := by
  rw [furnaceRequest_enabled h hst, if_pos rfl, firstLine_none.mpr hb, Option.elim_none]

/-- Where no state blocks a request, no line does. -/
theorem not_blocks_false (l : Line) : ¬ Blocks s f (fun _ => false) l := fun h => Bool.false_ne_true h.2

theorem blocks_hold_iff {l : Line} :
    Blocks s f blocksHold l ↔ s.config.lines[l].enabled = true ∧ s.config.lines[l].feeding = f ∧
      (s.lines[l].state = some .producing ∨ s.lines[l].state = some .jobChange ∨
        s.lines[l].state = some .holdPending) := by
  rw [Blocks, feeds_iff, blocksHold_iff, and_assoc]

theorem blocks_shutdown_iff {l : Line} :
    Blocks s f blocksShutdown l ↔
      s.config.lines[l].enabled = true ∧ s.config.lines[l].feeding = f ∧ s.lines[l].state ≠ some .cold := by
  rw [Blocks, feeds_iff, blocksShutdown_iff, and_assoc]

end

theorem setFurnace_setFurnace (s : State) (f : Furnace) (r r' : FurnaceRecord) :
    (s.setFurnace f r).setFurnace f r' = s.setFurnace f r' := by
  simp [State.setFurnace]

/-- A furnace drained and then in another state (R69, R71). -/
theorem drain_setFurnace (f : Furnace) (st : Option FurnaceState) (s : State) :
    (drain f s).setFurnace f { (drain f s).furnaces[f] with state := st } =
      (s.book (.furnace f .drained) s.furnaces[f].inventoryMass).setFurnace f
        { s.furnaces[f] with state := st, queue := [], inventoryMass := 0, inventoryCullet := 0 } := by
  rw [drain]
  dsimp only
  rw [setFurnace_setFurnace, State.setFurnace_furnaces, get_set_self]

/-- Settles O30, each refusal and each transition by the check of R65 that gives it. -/
theorem furnaceStateRequests : Obligations.FurnaceStateRequests := by
  refine fun p tag s hr => ⟨fun n hn => ?_, fun f => ⟨fun hf => ?_, fun hf => ⟨fun hst hw => ?_,
    fun hst l st hl first hs => ?_, fun hst => ?_, fun hst => ?_,
    fun st hst => ⟨fun hn => ?_, fun hn => ?_, fun hn => ?_⟩⟩⟩⟩
  · refine ⟨?_, ?_, ?_, ?_⟩ <;> exact congrArg Host.Outcome.next (serve_refuse hr (furnaceRequest_range hn))
  · refine ⟨?_, ?_, ?_, ?_⟩ <;> exact congrArg Host.Outcome.next (serve_refuse hr (furnaceRequest_disabled hf))
  · refine congrArg Host.Outcome.next (serve_accept hr (furnaceRequest_taken hf hst fun l hb => ?_))
    exact hw l (blocks_hold_iff.mp hb)
  · refine congrArg Host.Outcome.next (serve_refuse hr (furnaceRequest_blocked hf hst ?_ (fun l' hlt hb => ?_) hs))
    · exact blocks_hold_iff.mpr hl
    · exact first l' hlt (blocks_hold_iff.mp hb)
  · exact congrArg Host.Outcome.next (serve_accept hr (furnaceRequest_taken hf hst not_blocks_false))
  · exact congrArg Host.Outcome.next (serve_accept hr (furnaceRequest_taken hf hst not_blocks_false))
  · exact congrArg Host.Outcome.next (serve_refuse hr (furnaceRequest_wrongState hf hst hn))
  · constructor <;> exact congrArg Host.Outcome.next (serve_refuse hr (furnaceRequest_wrongState hf hst hn))
  · exact congrArg Host.Outcome.next (serve_refuse hr (furnaceRequest_wrongState hf hst hn))

/-- Settles O31: the effect of the request is the drain. -/
theorem furnaceShutdownDrains : Obligations.FurnaceShutdownDrains := by
  refine fun p tag f s hr hf hst => ⟨fun hb => ?_, fun l st hl first hs => ?_⟩
  · refine ⟨s.openBank.add (.furnace f .drained) s.furnaces[f].inventoryMass, ?_, fun a ha => ?_, ?_, ?_⟩
    · exact (Bank.get_add ..).trans (if_pos rfl)
    · exact (Bank.get_add ..).trans (if_neg ha.symm)
    · exact Bank.add_saturated ..
    · refine congrArg Host.Outcome.next ((serve_accept hr (furnaceRequest_taken hf hst fun l hb' => ?_)).trans ?_)
      · exact hb l (blocks_shutdown_iff.mp hb')
      · rw [drain_setFurnace]
        rfl
  · refine congrArg Host.Outcome.next (serve_refuse hr (furnaceRequest_blocked hf hst ?_ (fun l' hlt hb => ?_) hs))
    · exact blocks_shutdown_iff.mpr hl
    · exact first l' hlt (blocks_shutdown_iff.mp hb)

end Sys2Proof.Machine
end

section
/-! PROOF. O32: how a charge enters a melt inventory queue, and the checks of CHARGE_POST. -/

namespace Sys2Proof.Machine

/-! ## The queue with a charge entered (R74 to R76) -/

/-- The record of a charge (R75). -/
def newCharge (serial mass cullet t : Nat) : Charge :=
  { serial := serial, arrival := t, originalMass := mass, originalCullet := cullet, remainingMass := mass,
    remainingCullet := cullet }

/-- A record with a charge merged into it (R76). -/
def Charge.merged (r : Charge) (serial mass cullet : Nat) : Charge :=
  { r with serial := serial, originalMass := r.originalMass + mass, originalCullet := r.originalCullet + cullet,
           remainingMass := r.remainingMass + mass, remainingCullet := r.remainingCullet + cullet }

theorem modify_last {α : Type} (g : α → α) (last : α) (older : List α) :
    (older ++ [last]).modify older.length g = older ++ [g last] := by
  induction older with
  | nil => rfl
  | cons r older ih => exact congrArg (r :: ·) ih

section
variable {mass : Nat} {queue : List Charge}

theorem chargeOutcome_noMass (h : mass = 0) : chargeOutcome mass queue = .noMass := if_pos h

theorem chargeOutcome_appended (h : 0 < mass) (hq : queue.length < queueLimit) : chargeOutcome mass queue = .appended :=
  (if_neg (Nat.ne_of_gt h)).trans (if_pos hq)

theorem chargeOutcome_merged (h : 0 < mass) (hq : queueLimit ≤ queue.length) : chargeOutcome mass queue = .merged :=
  (if_neg (Nat.ne_of_gt h)).trans (if_neg (Nat.not_lt.mpr hq))

variable (serial cullet t : Nat)

theorem enterCharge_noMass (h : mass = 0) : enterCharge serial mass cullet t queue = queue := by
  rw [enterCharge, chargeOutcome_noMass h]

theorem enterCharge_appended (h : 0 < mass) (hq : queue.length < queueLimit) :
    enterCharge serial mass cullet t queue = queue ++ [newCharge serial mass cullet t] := by
  rw [enterCharge, chargeOutcome_appended h hq]
  rfl

theorem enterCharge_merged {older : List Charge} {last : Charge} (h : 0 < mass)
    (hq : queueLimit ≤ (older ++ [last]).length) :
    enterCharge serial mass cullet t (older ++ [last]) = older ++ [last.merged serial mass cullet] := by
  rw [enterCharge, chargeOutcome_merged h hq]
  dsimp only
  rw [mergeNewest, List.length_append, List.length_singleton, Nat.add_sub_cancel, modify_last]
  rfl

end

/-! ## CHARGE_POST (R72) -/

/-- A furnace's record after a charge of a record mass (R74). -/
def FurnaceRecord.charged (r : FurnaceRecord) (serial mass cullet t : Nat) : FurnaceRecord :=
  { r with lastSerial := serial, queue := enterCharge serial mass cullet t r.queue,
           inventoryMass := r.inventoryMass + mass, inventoryCullet := r.inventoryCullet + cullet }

/-- The part in which a charge is taken, before QUEUE_MERGED. -/
def chargedInto (f : Furnace) (serial mass cullet : Nat) (s : State) : State :=
  (s.book (.furnace f .melted) mass).setFurnace f (s.furnaces[f].charged serial mass cullet s.interval.plantTime)

section
variable (f : Furnace) (serial batch cullet : Nat) (s : State)

theorem takeCharge_eq :
    takeCharge f serial batch cullet s =
      if chargeOutcome (chargeMass s.config.furnaces[f].loi batch cullet) s.furnaces[f].queue = .merged then
        raise .queueMerged (some f.val)
          (chargedInto f serial (chargeMass s.config.furnaces[f].loi batch cullet) cullet s)
      else chargedInto f serial (chargeMass s.config.furnaces[f].loi batch cullet) cullet s := rfl

theorem takeCharge_furnaces :
    (takeCharge f serial batch cullet s).furnaces =
      s.furnaces.set f (s.furnaces[f].charged serial (chargeMass s.config.furnaces[f].loi batch cullet) cullet
        s.interval.plantTime) := by
  rw [takeCharge_eq]
  split
  · exact raise_furnaces ..
  · rfl

theorem takeCharge_furnace :
    (takeCharge f serial batch cullet s).furnaces[f] =
      s.furnaces[f].charged serial (chargeMass s.config.furnaces[f].loi batch cullet) cullet s.interval.plantTime := by
  simp only [takeCharge_furnaces, get_set_self]

end

/-- The ranges of a charge's fields (R72). -/
def ChargeInRange (serial batch cullet : Nat) : Prop :=
  1 ≤ serial ∧ serial ≤ 2 ^ 32 - 1 ∧ batch ≤ 20000000 ∧ cullet ≤ 20000000

section
variable {s : State} {f : Furnace} {serial batch cullet : Nat}

theorem reqChargePost_furnace {n : Nat} (h : 3 < n) : reqChargePost n serial batch cullet s = refuse s .range :=
  dif_neg (by omega)

theorem reqChargePost_outOfRange (h : ¬ ChargeInRange serial batch cullet) :
    reqChargePost f.val serial batch cullet s = refuse s .range := by
  refine (dif_pos f.isLt).trans (if_pos ?_)
  unfold ChargeInRange at h
  unfold wordLimit
  omega

/-- A charge in range, after the check of its fields. -/
theorem reqChargePost_inRange (h : ChargeInRange serial batch cullet) :
    reqChargePost f.val serial batch cullet s =
      if s.config.furnaces[f].enabled = false then refuse s .notConfigured
      else if s.furnaces[f].state = some .cold then refuse s .furnaceCold
      else if serial ≤ s.furnaces[f].lastSerial then refuse s .duplicate (octets 4 s.furnaces[f].lastSerial)
      else if inventoryLimit < s.furnaces[f].inventoryMass + chargeMass s.config.furnaces[f].loi batch cullet then
        refuse s .range
      else
        accept (takeCharge f serial batch cullet s)
          (octets 1 (chargeOutcome (chargeMass s.config.furnaces[f].loi batch cullet) s.furnaces[f].queue).code ++
            octets 6 (chargeMass s.config.furnaces[f].loi batch cullet) ++ octets 6 cullet ++
            octets 1 (takeCharge f serial batch cullet s).furnaces[f].queue.length ++
            octets 6 (takeCharge f serial batch cullet s).furnaces[f].inventoryMass) := by
  refine (dif_pos f.isLt).trans (if_neg ?_)
  unfold ChargeInRange at h
  unfold wordLimit
  omega

/-- A charge that passes every check is taken, and the reply tells its furnace's queue and inventory after it. -/
theorem reqChargePost_taken (h : ChargeInRange serial batch cullet) (hf : s.config.furnaces[f].enabled = true)
    (hst : s.furnaces[f].state ≠ some .cold) (hs : s.furnaces[f].lastSerial < serial)
    (hm : s.furnaces[f].inventoryMass + chargeMass s.config.furnaces[f].loi batch cullet ≤ inventoryLimit) :
    reqChargePost f.val serial batch cullet s =
      accept (takeCharge f serial batch cullet s)
        (octets 1 (chargeOutcome (chargeMass s.config.furnaces[f].loi batch cullet) s.furnaces[f].queue).code ++
          octets 6 (chargeMass s.config.furnaces[f].loi batch cullet) ++ octets 6 cullet ++
          octets 1 (enterCharge serial (chargeMass s.config.furnaces[f].loi batch cullet) cullet s.interval.plantTime
            s.furnaces[f].queue).length ++
          octets 6 (s.furnaces[f].inventoryMass + chargeMass s.config.furnaces[f].loi batch cullet)) := by
  rw [reqChargePost_inRange h, if_neg (by rw [hf]; exact Bool.noConfusion), if_neg hst, if_neg (by omega),
    if_neg (by omega), takeCharge_furnace]
  rfl

/-- What a taken CHARGE_POST answers and leaves, by what becomes of the queue. -/
theorem exec_chargePost_taken {p : Port} {tag : Octet} {o : ChargeOutcome} {queue : List Charge} {s' : State}
    (hr : s.phase = .running) (h : ChargeInRange serial batch cullet) (hf : s.config.furnaces[f].enabled = true)
    (hst : s.furnaces[f].state ≠ some .cold) (hs : s.furnaces[f].lastSerial < serial)
    (hm : s.furnaces[f].inventoryMass + chargeMass s.config.furnaces[f].loi batch cullet ≤ inventoryLimit)
    (ho : chargeOutcome (chargeMass s.config.furnaces[f].loi batch cullet) s.furnaces[f].queue = o)
    (hq : enterCharge serial (chargeMass s.config.furnaces[f].loi batch cullet) cullet s.interval.plantTime
      s.furnaces[f].queue = queue)
    (hs' : s' = (s.book (.furnace f .melted) (chargeMass s.config.furnaces[f].loi batch cullet)).setFurnace f
      { s.furnaces[f] with
        lastSerial := serial, queue := queue,
        inventoryMass := s.furnaces[f].inventoryMass + chargeMass s.config.furnaces[f].loi batch cullet,
        inventoryCullet := s.furnaces[f].inventoryCullet + cullet }) :
    exec (.chargePost p tag f.val serial batch cullet) s =
      .next (replied p tag (.chargePost f.val serial batch cullet) .ok
        (octets 1 o.code ++ octets 6 (chargeMass s.config.furnaces[f].loi batch cullet) ++ octets 6 cullet ++
          octets 1 queue.length ++
          octets 6 (s.furnaces[f].inventoryMass + chargeMass s.config.furnaces[f].loi batch cullet))
        (if o = .merged then raise .queueMerged (some f.val) s' else s')) := by
  subst ho hq hs'
  exact congrArg Host.Outcome.next (serve_accept hr (reqChargePost_taken h hf hst hs hm))

end

/-- Settles O32: the checks of R72 in their order, and then the three ways in which a charge enters the queue. -/
theorem chargePostEntersTheQueue : Obligations.ChargePostEntersTheQueue := by
  refine fun p tag s hr => ⟨fun n serial batch cullet hn => ?_, fun f serial batch cullet => ⟨fun h => ?_,
    fun h hf => ?_, fun h hf => ⟨fun hst => ?_, fun hst => ⟨fun hs => ?_, fun hs => ⟨fun hm => ?_, fun hm => ?_⟩⟩⟩⟩⟩
  · exact congrArg Host.Outcome.next (serve_refuse hr (reqChargePost_furnace hn))
  · exact congrArg Host.Outcome.next (serve_refuse hr (reqChargePost_outOfRange h))
  · exact congrArg Host.Outcome.next (serve_refuse hr ((reqChargePost_inRange h).trans (if_pos hf)))
  · refine congrArg Host.Outcome.next (serve_refuse hr ((reqChargePost_inRange h).trans ?_))
    rw [if_neg (by rw [hf]; exact Bool.noConfusion), if_pos hst]
  · refine congrArg Host.Outcome.next (serve_refuse hr ((reqChargePost_inRange h).trans ?_))
    rw [if_neg (by rw [hf]; exact Bool.noConfusion), if_neg hst, if_pos hs]
  · refine congrArg Host.Outcome.next (serve_refuse hr ((reqChargePost_inRange h).trans ?_))
    rw [if_neg (by rw [hf]; exact Bool.noConfusion), if_neg hst, if_neg (by omega)]
    exact if_pos hm
  · refine ⟨fun h0 s' hs' => ?_, fun hp hq s' hs' => ?_, fun hp older last hql hq s' hs' => ?_⟩
    · exact exec_chargePost_taken hr h hf hst hs hm (chargeOutcome_noMass h0) (enterCharge_noMass _ _ _ h0) hs'
    · exact exec_chargePost_taken hr h hf hst hs hm (chargeOutcome_appended hp hq)
        (enterCharge_appended _ _ _ hp hq) hs'
    · refine exec_chargePost_taken hr h hf hst hs hm (chargeOutcome_merged hp hq.ge) ?_ hs'
      rw [hql] at hq ⊢
      exact enterCharge_merged _ _ _ hp hq.ge

end Sys2Proof.Machine
end

section
/-! PROOF. O12: the snapshot of a save. -/

namespace Sys2Proof.Machine

/-- The save in flight that SAVE begins (R189). -/
def savedNow (s : State) : Save := { snapshot := saveSnapshot s, written := 0, accessDue := s.clock + 100 }

theorem reqSave_taken {s : State} (h : s.save = none) : reqSave s = accept { s with save := some (savedNow s) } := by
  unfold reqSave
  rw [h]
  rfl

theorem reqSave_busy {s : State} (h : s.save ≠ none) : reqSave s = refuse s .busy :=
  if_pos (Option.isSome_iff_ne_none.mpr h)

/-- Settles O12. -/
theorem saveIsTakenOnce : Obligations.SaveIsTakenOnce := by
  refine fun p tag s hr => ⟨fun h => ⟨savedNow s, ?_, rfl, rfl, rfl, fun f => get_ofFn ..⟩, fun h => ?_⟩
  · exact congrArg Host.Outcome.next (serve_accept hr (reqSave_taken h))
  · exact congrArg Host.Outcome.next (serve_refuse hr (reqSave_busy h))

end Sys2Proof.Machine
end

section
/-! PROOF. O57 and O58: what the invariants of furnaces and lines look at, and the operations that leave all of it. -/

namespace Sys2Proof.Machine

/-! ## The melt -/

/-- What the invariants of furnaces and lines look at: the two kinds of unit with their committed regions, and the
places from which a furnace's region can come, the staging copies, the save in flight and the image. -/
structure Melt where
  furnaces       : Vector FurnaceRecord 4
  lines          : Vector LineRecord 12
  furnaceRegions : Vector FurnaceConfig 4
  lineRegions    : Vector LineConfig 12
  locks          : Vector LockRecord 53
  save           : Option Save
  image          : Image

/-- The melt of a state. -/
def State.melt (s : State) : Melt :=
  { furnaces := s.furnaces, lines := s.lines, furnaceRegions := s.config.furnaces, lineRegions := s.config.lines,
    locks := s.locks, save := s.save, image := s.image }

section
variable (s : State)

@[simp] theorem setChannel_melt (c : Chan) (r : ChannelRecord) : (s.setChannel c r).melt = s.melt := rfl
@[simp] theorem setInterval_melt (r : IntervalRecord) : (s.setInterval r).melt = s.melt := rfl
@[simp] theorem setPool_melt (c : Chan) (r : Pool) : (s.setPool c r).melt = s.melt := rfl
@[simp] theorem setOpenBank_melt (b : Bank) : (s.setOpenBank b).melt = s.melt := rfl
@[simp] theorem setClosingBank_melt (b : Bank) : (s.setClosingBank b).melt = s.melt := rfl
@[simp] theorem setTotals_melt (r : Totals) : (s.setTotals r).melt = s.melt := rfl
@[simp] theorem setPort_melt (p : Port) (r : PortRecord) : (s.setPort p r).melt = s.melt := rfl
@[simp] theorem setPortLock_melt (p : Port) (r : PortLock) : (s.setPortLock p r).melt = s.melt := rfl
@[simp] theorem raiseTo_melt (p : Port) (src : AlertSource) (obj : Option Nat) : (raiseTo p src obj s).melt = s.melt :=
  rfl
@[simp] theorem raise_melt (src : AlertSource) (obj : Option Nat) : (raise src obj s).melt = s.melt :=
  (congrArg State.melt (raise_frame src obj s) :)

theorem setConfig_melt {g : Configuration} (hf : g.furnaces = s.config.furnaces) (hl : g.lines = s.config.lines) :
    (s.setConfig g).melt = s.melt := by
  simp [State.melt, hf, hl]

theorem forEach_melt {α : Type} (xs : List α) {f : α → State → State} (h : ∀ x t, (f x t).melt = t.melt) :
    (forEach xs f s).melt = s.melt :=
  forEach_keeps (fun t => t.melt = s.melt) xs f (fun x _ t ht => (h x t).trans ht) s rfl

/-! ## Readings and channels (chapter 1) -/

@[simp] theorem endRun_melt (o : ProveOutcome) (d : Int) : (endRun o d s).melt = s.melt :=
  (congrArg State.melt (endRun_frame o d s) :)
@[simp] theorem abortRun_melt (c : Chan) : (abortRun c s).melt = s.melt := (congrArg State.melt (abortRun_frame c s) :)
@[simp] theorem sendChannel_melt (c : Chan) (st : ChannelState) : (sendChannel c st s).melt = s.melt :=
  (congrArg State.melt (sendChannel_frame c st s) :)
@[simp] theorem enterStale_melt (c : Chan) : (enterStale c s).melt = s.melt :=
  (congrArg State.melt (enterStale_frame c s) :)
@[simp] theorem finishReading_melt (c : Chan) (o : ReadingOutcome) (u : Nat) (base : Option Nat)
    (tag : Option Consumer) : (finishReading c o u base tag s).after.melt = s.melt :=
  (congrArg State.melt (finishReading_frame c o u base tag s) :)

@[simp] theorem takeTotal_melt (c : Chan) (v : Nat) (tag : Option Consumer) :
    (takeTotal c v tag s).after.melt = s.melt := by
  unfold takeTotal
  split
  · rfl
  · exact finishReading_melt ..

@[simp] theorem takeDelta_melt (c : Chan) (d : Nat) (base : Option Nat) (tag : Option Consumer) :
    (takeDelta c d base tag s).after.melt = s.melt := by
  unfold takeDelta
  dsimp only
  split <;> exact finishReading_melt ..

@[simp] theorem samplePulse_melt (c : Chan) : (samplePulse c s).melt = s.melt := by
  unfold samplePulse
  dsimp only
  split
  · exact takeDelta_melt ..
  · rfl

@[simp] theorem abandonPoll_melt (c : Chan) : (abandonPoll c s).melt = s.melt := by
  unfold abandonPoll
  dsimp only
  split
  · split <;> rfl
  · rfl

@[simp] theorem renewPolling_melt (c : Chan) : (renewPolling c s).melt = s.melt := by
  rw [renewPolling_eq]
  rfl

@[simp] theorem activate_melt (c : Chan) : (activate c s).melt = s.melt := by
  unfold activate
  dsimp only
  split <;> simp

@[simp] theorem deactivate_melt (c : Chan) : (deactivate c s).melt = s.melt := by simp [deactivate]

@[simp] theorem adoptChannel_melt (c : Chan) (old new : ChannelConfig) : (adoptChannel c old new s).melt = s.melt := by
  unfold adoptChannel
  split
  · rfl
  · exact activate_melt ..
  · exact deactivate_melt ..
  · split
    · simp
    · split
      · exact enterStale_melt ..
      · rfl

/-! ## Slots (chapter 2) -/

@[simp] theorem leaveReady_melt (sl : Slot) : (leaveReady sl s).melt = s.melt :=
  forEach_melt (s.setSlot sl _) _ fun c t => (congrArg State.melt (channelSlotLost_frame c t) :)

@[simp] theorem enterReady_melt (sl : Slot) (m : ModuleType) : (enterReady sl m s).melt = s.melt :=
  (congrArg State.melt (enterReady_metered sl m s).frame :)

@[simp] theorem enterRejected_melt (sl : Slot) (why : RejectReason) : (enterRejected sl why s).melt = s.melt :=
  raise_melt ..

@[simp] theorem failPoll_melt (c : Chan) : (failPoll c s).melt = s.melt := by
  unfold failPoll
  dsimp only
  split
  · exact enterStale_melt ..
  · rfl

/-! ## Pools, intervals and results (chapters 3, 6 and 7) -/

@[simp] theorem settleOpenPool_melt (c : Chan) (entries : List Entry) : (settleOpenPool c entries s).melt = s.melt := by
  simp [settleOpenPool]
@[simp] theorem settleClosingPool_melt (snap : Snapshot) (c : Chan) : (settleClosingPool snap c s).melt = s.melt :=
  (congrArg State.melt (settleClosingPool_frame snap c s) :)
@[simp] theorem beginClose_melt (e start : Nat) (short : Bool) : (beginClose e start short s).melt = s.melt := by
  dsimp only [State.melt, beginClose]
@[simp] theorem restampChannels_melt (t : Nat) : (restampChannels t s).melt = s.melt := by
  dsimp only [State.melt, restampChannels]
@[simp] theorem writeRecord_melt (r : IntervalResult) : (writeRecord r s).melt = s.melt := by
  dsimp only [State.melt, writeRecord]

@[simp] theorem wrapPlantTime_melt : (wrapPlantTime s).melt = s.melt := by
  unfold wrapPlantTime
  dsimp only
  rw [restampChannels_melt, setPlantTime, setInterval_melt]
  split
  · exact setInterval_melt s _
  · exact beginClose_melt s _ _ _

@[simp] theorem beginWaiting_melt (w : Waiting) : (beginWaiting w s).melt = s.melt := by
  cases w with
  | none => rfl
  | expiry => exact beginClose_melt s _ _ _
  | wrap => exact beginClose_melt s _ _ _

@[simp] theorem endClose_melt (k : Closing) : (endClose k s).melt = s.melt := by
  have settled := forEach_melt s (List.finRange 32) fun c t => settleClosingPool_melt t k.snapshot c
  unfold endClose
  dsimp only
  rw [beginWaiting_melt, setInterval_melt, forEach_melt _ _ fun n t => raise_melt t .seBand (some n), raise_melt,
    setClosingBank_melt, setTotals_melt, writeRecord_melt]
  exact settled

end

/-! ## Requests that leave the melt -/

theorem switched_furnaces (g : Configuration) (k : Carrier) (x : SetName) : (switched g k x).furnaces = g.furnaces := by
  simp only [switched]

section
variable (s : State)

theorem reqMeterPost_melt (channel value : Nat) (tag : Option Nat) :
    (reqMeterPost channel value tag s).after.melt = s.melt := by
  unfold reqMeterPost
  split
  · dsimp only
    iterate 5 split; rfl
    dsimp only [accept_after]
    split
    · exact takeTotal_melt ..
    · exact takeDelta_melt ..
  · rfl

theorem reqChannelRebase_melt (channel : Nat) : (reqChannelRebase channel s).after.melt = s.melt := by
  unfold reqChannelRebase
  split
  · dsimp only
    split
    · rfl
    · split
      · exact sendChannel_melt ..
      · rfl
  · rfl

theorem reqSetSwitch_melt (p : Port) (carrier set : Nat) : (reqSetSwitch p carrier set s).after.melt = s.melt := by
  unfold reqSetSwitch
  split
  · rfl
  · split
    · rfl
    · dsimp only
      split
      · rfl
      · split
        · rfl
        · exact setConfig_melt s (switched_furnaces ..) (switched_lines ..)

theorem reqTimeSet_melt (t : Nat) : (reqTimeSet t s).after.melt = s.melt := by
  unfold reqTimeSet
  split
  · rfl
  · split
    · rfl
    · simp

theorem reqIntervalRead_melt (p : Port) : (reqIntervalRead p s).after.melt = s.melt := by
  unfold reqIntervalRead
  dsimp only
  split <;> rfl

theorem reqCursorSet_melt (p : Port) (place : Nat) : (reqCursorSet p place s).after.melt = s.melt := by
  unfold reqCursorSet
  split <;> rfl

theorem reqCampaignReset_melt (consumer : Nat) : (reqCampaignReset consumer s).after.melt = s.melt := by
  unfold reqCampaignReset
  split <;> rfl

theorem reqClearCounts_melt : (reqClearCounts s).after.melt = s.melt := by
  unfold reqClearCounts
  split
  · rfl
  · dsimp only [State.melt, accept_after, clearCounts]

theorem reqProveStart_melt (p : Port) (channel duration : Nat) :
    (reqProveStart p channel duration s).after.melt = s.melt := by
  unfold reqProveStart
  split
  · split
    · split
      · rfl
      · dsimp only
        split <;> rfl
    · rfl
  · rfl

theorem reqProveStop_melt : (reqProveStop s).after.melt = s.melt := by
  unfold reqProveStop
  split
  · rfl
  · exact endRun_melt ..

theorem reqAlertRead_melt (p : Port) : (reqAlertRead p s).after.melt = s.melt := by
  unfold reqAlertRead
  dsimp only
  split
  · rfl
  · dsimp only [accept_after]
    split <;> rfl

theorem reqAlertClear_melt (p : Port) (n : Nat) : (reqAlertClear p n s).after.melt = s.melt := by
  unfold reqAlertClear
  split <;> rfl

theorem reqAlertMask_melt (p : Port) (m : Nat) : (reqAlertMask p m s).after.melt = s.melt := by
  unfold reqAlertMask
  split <;> rfl

end

/-! ## Events that leave the melt -/

/-- The events that are no metering, no plant time and no proving: those that can reach the melt. -/
def reachesMelt : Instr → Bool
  | .hardwareReset | .configLoadDone _ | .holdTimerExpiry _ | .lockExpiry _ | .saveWriteAcknowledged
  | .saveAccessTimeout => true
  | _ => false

section
variable {s t : State}

theorem exec_plantTimeTick_melt (he : exec .plantTimeTick s = .next t) : t.melt = s.melt := by
  obtain rfl := Host.Outcome.next.inj he
  split
  · dsimp only
    split
    · rfl
    · exact wrapPlantTime_melt (passSecond s)
  · rfl

theorem exec_plantTimeWrap_melt (he : exec .plantTimeWrap s = .next t) : t.melt = s.melt := by
  obtain rfl := Host.Outcome.next.inj he
  split
  · exact wrapPlantTime_melt (passSecond s)
  · rfl

theorem exec_intervalExpiry_melt (he : exec .intervalExpiry s = .next t) : t.melt = s.melt := by
  obtain rfl := Host.Outcome.next.inj he
  split
  · split
    · rfl
    · exact beginClose_melt s _ _ _
  · rfl

theorem exec_presenceChange_melt {sl : Slot} {a b : Bool} (he : exec (.presenceChange sl a b) s = .next t) :
    t.melt = s.melt := by
  obtain rfl := Host.Outcome.next.inj he
  dsimp only
  split
  · rfl
  · split
    · exact leaveReady_melt ..
    · rfl

theorem exec_settleTimerExpiry_melt {sl : Slot} (he : exec (.settleTimerExpiry sl) s = .next t) : t.melt = s.melt := by
  obtain rfl := Host.Outcome.next.inj he
  dsimp only
  split
  · split
    · exact enterReady_melt ..
    · exact enterReady_melt ..
    · exact enterReady_melt ..
    · exact enterRejected_melt ..
    · rfl
    · split
      · exact enterRejected_melt ..
      · rfl
  · rfl

theorem exec_partialTimerExpiry_melt {sl : Slot} (he : exec (.partialTimerExpiry sl) s = .next t) :
    t.melt = s.melt := by
  obtain rfl := Host.Outcome.next.inj he
  dsimp only
  split
  · split
    · exact enterRejected_melt ..
    · rfl
  · rfl

theorem exec_pulseSample_melt (he : exec .pulseSample s = .next t) : t.melt = s.melt := by
  obtain rfl := Host.Outcome.next.inj he
  refine forEach_melt { s.reach s.sampleDue with sampleDue := s.sampleDue + 1000 } _ fun c u => ?_
  split
  · exact samplePulse_melt u c
  · rfl

theorem exec_pollReply_melt {poll : PollRef} {ok : Bool} {address value : Nat}
    (he : exec (.pollReply poll ok address value) s = .next t) : t.melt = s.melt := by
  obtain rfl := Host.Outcome.next.inj he
  dsimp only
  split
  · rfl
  · split
    · split
      · exact takeTotal_melt ..
      · exact failPoll_melt ..
    · rfl

theorem exec_replyLimitExpiry_melt {sl : Slot} (he : exec (.replyLimitExpiry sl) s = .next t) : t.melt = s.melt := by
  obtain rfl := Host.Outcome.next.inj he
  split
  · rfl
  · split
    · exact failPoll_melt ..
    · rfl

theorem exec_proveExpiry_melt (he : exec .proveExpiry s = .next t) : t.melt = s.melt := by
  obtain rfl := Host.Outcome.next.inj he
  split
  · rfl
  · dsimp only
    split
    · exact endRun_melt ..
    · rfl

/-- An event of metering, plant time or proving leaves the melt. -/
theorem exec_melt {i : Instr} (he : exec i s = .next t) (hm : reachesMelt i = false) (hr : i.asRequest = none)
    (hl : onLink i = false) : t.melt = s.melt := by
  cases i
  case plantTimeTick => exact exec_plantTimeTick_melt he
  case plantTimeWrap => exact exec_plantTimeWrap_melt he
  case intervalExpiry => exact exec_intervalExpiry_melt he
  case closingPoolSettle c =>
    obtain rfl := Host.Outcome.next.inj he
    split
    · rfl
    · exact settleClosingPool_melt ..
  case closeEnd =>
    obtain rfl := Host.Outcome.next.inj he
    split
    · rfl
    · exact endClose_melt ..
  case presenceChange => exact exec_presenceChange_melt he
  case codeLineChange =>
    obtain rfl := Host.Outcome.next.inj he
    dsimp only
    split <;> rfl
  case settleTimerExpiry => exact exec_settleTimerExpiry_melt he
  case partialTimerExpiry => exact exec_partialTimerExpiry_melt he
  case pulseInput =>
    obtain rfl := Host.Outcome.next.inj he
    dsimp only
    split <;> rfl
  case pulseSample => exact exec_pulseSample_melt he
  case pollStart =>
    obtain rfl := Host.Outcome.next.inj he
    split <;> rfl
  case pollReply => exact exec_pollReply_melt he
  case replyLimitExpiry => exact exec_replyLimitExpiry_melt he
  case staleTimeExpiry c =>
    obtain rfl := Host.Outcome.next.inj he
    split
    · exact enterStale_melt ..
    · rfl
  case referencePulse =>
    obtain rfl := Host.Outcome.next.inj he
    split <;> rfl
  case proveExpiry => exact exec_proveExpiry_melt he
  all_goals revert hm hr hl; exact nofun

end

end Sys2Proof.Machine
end

section
/-! PROOF. O57: what becomes of a furnace's record keeps its queue sound and in order. -/

namespace Sys2Proof.Machine

/-! ## Parts of a queue -/

theorem massOf_append (a b : List Charge) : massOf (a ++ b) = massOf a + massOf b := by simp [massOf]

theorem culletOf_append (a b : List Charge) : culletOf (a ++ b) = culletOf a + culletOf b := by simp [culletOf]

/-- The records that a draw leaves are the last of the queue, serial for serial. -/
theorem drawQueue_serials {queue : List Charge} (last m : Nat) (h : Stocked queue) :
    (drawQueue last m queue).queue.map Charge.serial <:+ queue.map Charge.serial := by
  induction queue generalizing last m with
  | nil => exact List.suffix_rfl
  | cons r rest ih =>
    rcases Nat.lt_or_ge m r.remainingMass with hm | hm
    · rw [drawQueue_part hm]
      exact List.suffix_rfl
    · rw [drawQueue_whole h.head hm]
      exact (ih _ _ h.tail).trans (List.suffix_cons ..)

/-- A cullet permille is at most 1000. -/
theorem permille_le {k m : Nat} (h : k ≤ m) : k * 1000 / m ≤ 1000 :=
  Nat.div_le_of_le_mul (Nat.mul_le_mul_right 1000 h)

theorem drawQueue_lastCullet_le {queue : List Charge} {last : Nat} (m : Nat) (h : Stocked queue) (hl : last ≤ 1000)
    (hk : ∀ r ∈ queue, r.originalCullet ≤ r.originalMass) : (drawQueue last m queue).lastCullet ≤ 1000 := by
  induction queue generalizing last m with
  | nil => exact hl
  | cons r rest ih =>
    rcases Nat.lt_or_ge m r.remainingMass with hm | hm
    · rw [drawQueue_part hm]
      exact hl
    · rw [drawQueue_whole h.head hm]
      exact ih _ h.tail (permille_le (hk r (List.mem_cons_self ..))) fun q hq => hk q (List.mem_cons_of_mem r hq)

/-! ## Records of furnaces -/

namespace FurnaceRecord
variable {r : FurnaceRecord}

theorem sound.drawn (m : Nat) (h : r.sound) : (r.drawn m).sound := by
  obtain ⟨mass, cullet, stocked, length, cold⟩ := h
  obtain ⟨-, hmass⟩ := drawQueue_mass r.lastCullet m stocked
  have hcullet := drawQueue_cullet r.lastCullet m stocked
  refine ⟨?_, ?_, fun q hq => ?_, ?_, fun hc => ?_⟩
  · change massOf (drawQueue r.lastCullet m r.queue).queue = r.inventoryMass - (m - _)
    have : massOf r.queue = r.inventoryMass := mass
    omega
  · change culletOf (drawQueue r.lastCullet m r.queue).queue = r.inventoryCullet - _
    have : culletOf r.queue = r.inventoryCullet := cullet
    omega
  · obtain ⟨c, hc, x, hx, rfl⟩ := mem_drawQueue stocked hq
    have := stocked c hc
    simp only [Charge.drawn]
    omega
  · have hle := (drawQueue_serials r.lastCullet m stocked).length_le
    rw [List.length_map, List.length_map] at hle
    exact hle.trans length
  · change (drawQueue r.lastCullet m r.queue).queue = []
    rw [cold hc]
    rfl

theorem ordered.drawn (m : Nat) (hs : r.sound) (h : r.ordered) : (r.drawn m).ordered := by
  obtain ⟨-, -, stocked, -, -⟩ := hs
  obtain ⟨serials, records, serial, last, mass⟩ := h
  have hsub := (drawQueue_serials r.lastCullet m stocked).sublist
  refine ⟨serials.sublist hsub, fun q hq => ?_, serial, ?_, ?_⟩
  · obtain ⟨c, hc, x, hx, rfl⟩ := mem_drawQueue stocked hq
    obtain ⟨hserial, hcullet, horiginal⟩ := records c hc
    exact ⟨hserial, (part_glassy hx hcullet).2, horiginal⟩
  · exact drawQueue_lastCullet_le m stocked last fun c hc => (records c hc).2.2
  · exact (Nat.sub_le ..).trans mass

section
variable {serial mass cullet t : Nat}

/-- What a queue that takes a charge holds after it, and how long it is (R74 to R76). -/
theorem enterCharge_cases (queue : List Charge) :
    (mass = 0 ∧ enterCharge serial mass cullet t queue = queue) ∨
    (0 < mass ∧ queue.length < queueLimit ∧
      enterCharge serial mass cullet t queue = queue ++ [newCharge serial mass cullet t]) ∨
    ∃ older last, queue = older ++ [last] ∧
      enterCharge serial mass cullet t queue = older ++ [last.merged serial mass cullet] := by
  rcases Nat.eq_zero_or_pos mass with h0 | hp
  · exact .inl ⟨h0, enterCharge_noMass _ _ _ h0⟩
  · rcases Nat.lt_or_ge queue.length queueLimit with hq | hq
    · exact .inr (.inl ⟨hp, hq, enterCharge_appended _ _ _ hp hq⟩)
    · rcases List.eq_nil_or_concat' queue with rfl | ⟨older, last, rfl⟩
      · exact absurd hq (by decide)
      · exact .inr (.inr ⟨older, last, rfl, enterCharge_merged _ _ _ hp hq⟩)

theorem sound.charged (hc : r.state ≠ some .cold) (hk : cullet ≤ mass) (h : r.sound) :
    (r.charged serial mass cullet t).sound := by
  obtain ⟨hmass, hcullet, stocked, length, -⟩ := h
  change massOf r.queue = r.inventoryMass at hmass
  change culletOf r.queue = r.inventoryCullet at hcullet
  unfold FurnaceRecord.charged FurnaceRecord.sound
  dsimp only
  rcases enterCharge_cases (serial := serial) (cullet := cullet) (t := t) r.queue with
    ⟨h0, he⟩ | ⟨hp, hq, he⟩ | ⟨older, last, hq, he⟩
  · rw [he]
    refine ⟨?_, ?_, stocked, length, fun h => absurd h hc⟩
    · exact hmass.trans (by omega)
    · exact hcullet.trans (by omega)
  · rw [he]
    refine ⟨?_, ?_, fun q hm => ?_, ?_, fun h => absurd h hc⟩
    · exact (massOf_append ..).trans (by rw [hmass]; rfl)
    · exact (culletOf_append ..).trans (by rw [hcullet]; rfl)
    · rcases List.mem_append.mp hm with hm | hm
      · exact stocked q hm
      · obtain rfl := List.mem_singleton.mp hm
        exact ⟨hp, Nat.le_refl _⟩
    · rw [List.length_append]
      exact hq
  · rw [he]
    rw [hq] at hmass hcullet stocked length
    refine ⟨?_, ?_, fun q hm => ?_, ?_, fun h => absurd h hc⟩
    · rw [← hmass]
      exact (massOf_append ..).trans (by simp [massOf_append, Charge.merged, Nat.add_assoc])
    · rw [← hcullet]
      exact (culletOf_append ..).trans (by simp [culletOf_append, Charge.merged, Nat.add_assoc])
    · rcases List.mem_append.mp hm with hm | hm
      · exact stocked q (List.mem_append_left _ hm)
      · obtain rfl := List.mem_singleton.mp hm
        obtain ⟨hpos, hle⟩ := stocked last (List.mem_append_right _ (List.mem_cons_self ..))
        exact ⟨Nat.add_pos_left hpos _, Nat.add_le_add_right hle _⟩
    · rwa [List.length_append] at length ⊢

theorem ordered.charged (hs : r.lastSerial < serial) (hw : serial ≤ wordLimit) (hk : cullet ≤ mass)
    (hi : r.inventoryMass + mass ≤ inventoryLimit) (h : r.ordered) : (r.charged serial mass cullet t).ordered := by
  obtain ⟨serials, records, -, last, -⟩ := h
  have newest {q : Charge} (hq : q ∈ r.queue) : q.serial < serial := (records q hq).1.trans_lt hs
  have kept {q : Charge} (hq : q ∈ r.queue) :
      q.serial ≤ serial ∧ q.remainingCullet ≤ q.remainingMass ∧ q.originalCullet ≤ q.originalMass :=
    ⟨(newest hq).le, (records q hq).2⟩
  unfold FurnaceRecord.charged FurnaceRecord.ordered
  dsimp only
  rcases enterCharge_cases (serial := serial) (mass := mass) (cullet := cullet) (t := t) r.queue with
    ⟨-, he⟩ | ⟨-, -, he⟩ | ⟨older, final, hq, he⟩
  · rw [he]
    exact ⟨serials, fun q => kept, hw, last, hi⟩
  · rw [he]
    refine ⟨?_, fun q hm => ?_, hw, last, hi⟩
    · rw [List.map_append, List.pairwise_append]
      refine ⟨serials, List.pairwise_singleton .., fun a ha b hb => ?_⟩
      obtain ⟨q, hm, rfl⟩ := List.mem_map.mp ha
      obtain rfl := List.mem_singleton.mp hb
      exact newest hm
    · rcases List.mem_append.mp hm with hm | hm
      · exact kept hm
      · obtain rfl := List.mem_singleton.mp hm
        exact ⟨Nat.le_refl _, hk, hk⟩
  · rw [he]
    rw [hq, List.map_append, List.pairwise_append] at serials
    rw [hq] at newest kept
    refine ⟨?_, fun q hm => ?_, hw, last, hi⟩
    · rw [List.map_append, List.pairwise_append]
      refine ⟨serials.1, List.pairwise_singleton .., fun a ha b hb => ?_⟩
      obtain ⟨q, hm, rfl⟩ := List.mem_map.mp ha
      obtain rfl := List.mem_singleton.mp hb
      exact newest (List.mem_append_left _ hm)
    · rcases List.mem_append.mp hm with hm | hm
      · exact kept (List.mem_append_left _ hm)
      · obtain rfl := List.mem_singleton.mp hm
        obtain ⟨-, hrem, horig⟩ := kept (List.mem_append_right _ (List.mem_cons_self ..))
        exact ⟨Nat.le_refl _, Nat.add_le_add hrem hk, Nat.add_le_add horig hk⟩

end

/-! ### Drains and starts (R69, R71, R73) -/

/-- An emptied record is sound in any state. -/
theorem sound_of_empty (hq : r.queue = []) (hm : r.inventoryMass = 0) (hk : r.inventoryCullet = 0) : r.sound := by
  unfold FurnaceRecord.sound
  rw [hq, hm, hk]
  exact ⟨rfl, rfl, fun _ h => absurd h List.not_mem_nil, Nat.zero_le _, fun _ => rfl⟩

theorem ordered.drained (st : Option FurnaceState) (h : r.ordered) :
    ({ r with state := st, queue := [], inventoryMass := 0, inventoryCullet := 0 } : FurnaceRecord).ordered := by
  obtain ⟨-, -, serial, last, -⟩ := h
  exact ⟨List.Pairwise.nil, fun _ h => absurd h List.not_mem_nil, serial, last, Nat.zero_le _⟩

/-- A record in a state other than COLD. -/
theorem sound.inState {st : Option FurnaceState} (hst : st ≠ some .cold) (h : r.sound) :
    ({ r with state := st } : FurnaceRecord).sound := by
  obtain ⟨mass, cullet, stocked, length, -⟩ := h
  exact ⟨mass, cullet, stocked, length, fun h => absurd h hst⟩

theorem sound_startFurnace (g : FurnaceConfig) (t : Nat) : (startFurnace g t).sound := by
  unfold startFurnace
  split
  · unfold openingQueue
    split
    · next h0 => exact sound_of_empty rfl h0 (by dsimp only; rw [h0, Nat.zero_mul, Nat.zero_div])
    · next h0 =>
      refine ⟨rfl, rfl, fun q hq => ?_, (by decide : 1 ≤ queueLimit), nofun⟩
      obtain rfl := List.mem_singleton.mp hq
      exact ⟨Nat.pos_of_ne_zero h0, Nat.le_refl _⟩
  · exact sound_of_empty rfl rfl rfl

theorem ordered_startFurnace {g : FurnaceConfig} (t : Nat) (h : openingInRange g.openingMass g.openingCullet) :
    (startFurnace g t).ordered := by
  obtain ⟨hmass, hcullet⟩ := h
  unfold startFurnace
  split
  · refine ⟨?_, ?_, Nat.zero_le _, hcullet, hmass⟩ <;> dsimp only <;> unfold openingQueue <;> split
    · exact List.Pairwise.nil
    · exact List.pairwise_singleton ..
    · exact fun _ h => absurd h List.not_mem_nil
    · intro q hq
      obtain rfl := List.mem_singleton.mp hq
      have hk : g.openingMass * g.openingCullet / 1000 ≤ g.openingMass :=
        Nat.div_le_of_le_mul (by rw [Nat.mul_comm 1000]; exact Nat.mul_le_mul_left _ hcullet)
      exact ⟨Nat.le_refl _, hk, hk⟩
  · exact ⟨List.Pairwise.nil, fun _ h => absurd h List.not_mem_nil, Nat.zero_le _, hcullet, Nat.zero_le _⟩

end FurnaceRecord

end Sys2Proof.Machine
end

section
/-! PROOF. O57 and O58: what writes to furnaces, lines, regions, lock table and memory keep of the invariants. -/

namespace Sys2Proof.Machine

/-! ## The opening inventories (R61) -/

/-- Every opening inventory from which a furnace may start is in range: committed, staged, stored and saved (R61). -/
def OpeningsInRange (s : State) : Prop :=
  (∀ f : Furnace, openingInRange s.config.furnaces[f].openingMass s.config.furnaces[f].openingCullet) ∧
  (∀ (r : RegionNo) (h : Hold) (g : FurnaceConfig), s.locks[r].hold = some h → h.staging = .furnace g →
    openingInRange g.openingMass g.openingCullet) ∧
  (∀ f : Furnace, openingInRange s.image.body.inventories[f].1 s.image.body.inventories[f].2) ∧
  ∀ (v : Save) (f : Furnace), s.save = some v →
    openingInRange v.snapshot.inventories[f].1 v.snapshot.inventories[f].2

theorem queuesOrdered_iff (s : State) :
    QueuesOrdered s ↔ (∀ f : Furnace, s.furnaces[f].ordered) ∧ OpeningsInRange s := Iff.rfl

/-! ## The lines that are fed (R66, R104) -/

/-- A line's furnace is enabled and MELTING. -/
def Fed (s : State) (l : Line) : Prop :=
  s.config.furnaces[s.config.lines[l].feeding].enabled = true ∧
    s.furnaces[s.config.lines[l].feeding].state = some .melting

theorem linesFed_iff (s : State) :
    LinesFed s ↔ ∀ l, s.config.lines[l].enabled = true → blocksHold s.lines[l].state = true → Fed s l := by
  unfold LinesFed
  simp only [blocksHold_iff]
  rfl

/-- A furnace that feeds a working line is enabled and MELTING. -/
theorem LinesFed.melting {s : State} (h : LinesFed s) {f : Furnace} {l : Line} (hb : Blocks s f blocksHold l) :
    s.config.furnaces[f].enabled = true ∧ s.furnaces[f].state = some .melting := by
  obtain ⟨hf, hw⟩ := hb
  obtain ⟨he, rfl⟩ := (feeds_iff s f l).mp hf
  exact (linesFed_iff s).mp h l he hw

/-! ## Writes to one record -/

section
variable {s : State}

theorem QueuesSound.setFurnace (h : QueuesSound s) {f : Furnace} {r : FurnaceRecord} (hr : r.sound) :
    QueuesSound (s.setFurnace f r) := by
  intro f'
  rw [State.setFurnace_furnaces, get_set]
  split
  · exact hr
  · exact h f'

theorem QueuesOrdered.setFurnace (h : QueuesOrdered s) {f : Furnace} {r : FurnaceRecord} (hr : r.ordered) :
    QueuesOrdered (s.setFurnace f r) := by
  obtain ⟨furnaces, openings⟩ := (queuesOrdered_iff s).mp h
  refine (queuesOrdered_iff _).mpr ⟨fun f' => ?_, openings⟩
  rw [State.setFurnace_furnaces, get_set]
  split
  · exact hr
  · exact furnaces f'

theorem LinesFed.setFurnace (h : LinesFed s) {f : Furnace} {r : FurnaceRecord}
    (hr : ∀ l, Blocks s f blocksHold l → r.state = some .melting) : LinesFed (s.setFurnace f r) := by
  refine (linesFed_iff _).mpr fun l he hw => ?_
  obtain ⟨enabled, melting⟩ := (linesFed_iff s).mp h l he hw
  refine ⟨enabled, ?_⟩
  rw [State.setFurnace_furnaces, get_set]
  split
  · next hf => exact hr l ⟨(feeds_iff s f l).mpr ⟨he, hf.symm⟩, hw⟩
  · exact melting

theorem LinesFed.setLine (h : LinesFed s) {l : Line} {r : LineRecord}
    (hr : blocksHold r.state = true → blocksHold s.lines[l].state = true ∨ Fed s l) : LinesFed (s.setLine l r) := by
  refine (linesFed_iff _).mpr fun l' he hw => ?_
  rw [State.setLine_lines, get_set] at hw
  split at hw
  · next hl =>
    subst hl
    rcases hr hw with hw | hfed
    · exact (linesFed_iff s).mp h l he hw
    · exact hfed
  · exact (linesFed_iff s).mp h l' he hw

end

/-! ## What a change keeps -/

/-- A change keeps the three invariants: the one of order only where the queues are sound. -/
structure Kept (s t : State) : Prop where
  sound   : QueuesSound s → QueuesSound t
  ordered : QueuesSound s → QueuesOrdered s → QueuesOrdered t
  fed     : LinesFed s → LinesFed t

namespace Kept
variable {s t u : State}

theorem refl (s : State) : Kept s s := ⟨id, fun _ => id, id⟩

theorem trans (h : Kept s t) (h' : Kept t u) : Kept s u :=
  ⟨fun hs => h'.sound (h.sound hs), fun hs ho => h'.ordered (h.sound hs) (h.ordered hs ho), fun hf => h'.fed (h.fed hf)⟩

/-- A change of lock table, save or image alone that leaves the opening inventories in range. -/
theorem of_openings (furnaces : t.furnaces = s.furnaces) (lines : t.lines = s.lines)
    (furnaceRegions : t.config.furnaces = s.config.furnaces) (lineRegions : t.config.lines = s.config.lines)
    (openings : QueuesSound s → QueuesOrdered s → OpeningsInRange t) : Kept s t where
  sound hs := by
    unfold QueuesSound
    rw [furnaces]
    exact hs
  ordered hs ho := by
    refine ⟨?_, openings hs ho⟩
    rw [furnaces]
    exact ho.1
  fed hf := by
    unfold LinesFed
    simp only [furnaces, lines, furnaceRegions, lineRegions]
    exact hf

theorem of_melt (h : t.melt = s.melt) : Kept s t := by
  simp only [State.melt, Melt.mk.injEq] at h
  obtain ⟨furnaces, lines, furnaceRegions, lineRegions, locks, save, image⟩ := h
  refine of_openings furnaces lines furnaceRegions lineRegions fun _ ho => ?_
  unfold OpeningsInRange
  rw [furnaceRegions, locks, save, image]
  exact ho.2

theorem melt_right (h : Kept s t) (hu : u.melt = t.melt) : Kept s u := h.trans (of_melt hu)

theorem setFurnace {f : Furnace} {r : FurnaceRecord} (sound : s.furnaces[f].sound → r.sound)
    (ordered : s.furnaces[f].sound → s.furnaces[f].ordered → r.ordered)
    (state : s.furnaces[f].state = some .melting → r.state = some .melting ∨ ∀ l, ¬ Blocks s f blocksHold l) :
    Kept s (s.setFurnace f r) where
  sound hs := hs.setFurnace (sound (hs f))
  ordered hs ho := ho.setFurnace (ordered (hs f) (ho.1 f))
  fed hf := hf.setFurnace fun l hb => (state (hf.melting hb).2).resolve_right fun hn => hn l hb

theorem setLine {l : Line} {r : LineRecord}
    (hr : blocksHold r.state = true → blocksHold s.lines[l].state = true ∨ Fed s l) : Kept s (s.setLine l r) :=
  ⟨id, fun _ => id, fun hf => hf.setLine hr⟩

/-- A line's record that is in the state as before. -/
theorem setLine_same {l : Line} {r : LineRecord} (hr : r.state = s.lines[l].state) : Kept s (s.setLine l r) :=
  setLine fun hw => .inl (hr ▸ hw)

/-! ## The lock table (R157) -/

theorem setLocks {x : Vector LockRecord 53}
    (hx : OpeningsInRange s → ∀ (r : RegionNo) (h : Hold) (g : FurnaceConfig), x[r].hold = some h →
      h.staging = .furnace g → openingInRange g.openingMass g.openingCullet) : Kept s { s with locks := x } := by
  refine of_openings rfl rfl rfl rfl fun _ ho => ?_
  obtain ⟨-, openings⟩ := ho
  obtain ⟨committed, -, stored, saved⟩ := id openings
  exact ⟨committed, hx openings, stored, saved⟩

theorem setLock {r : RegionNo} {k : LockRecord}
    (hk : OpeningsInRange s → ∀ (h : Hold) (g : FurnaceConfig), k.hold = some h → h.staging = .furnace g →
      openingInRange g.openingMass g.openingCullet) : Kept s (s.setLock r k) := by
  refine setLocks fun ho r' h g hh hg => ?_
  rw [get_set] at hh
  split at hh
  · exact hk ho h g hh hg
  · exact ho.2.1 r' h g hh hg

/-- A lock record whose holder and staging copy stay. -/
theorem setLock_same {r : RegionNo} {k : LockRecord} (hk : k.hold = s.locks[r].hold) : Kept s (s.setLock r k) :=
  setLock fun ho h g hh hg => ho.2.1 r h g (hk ▸ hh) hg

end Kept

end Sys2Proof.Machine
end

section
/-! PROOF. O57 and O58: the operations of furnaces, lines and locks keep the three invariants. -/

namespace Sys2Proof.Machine

/-! ## What requests come to -/

/-- The cullet of a charge is part of its record mass (R74). -/
theorem cullet_le_chargeMass (loi batch cullet : Nat) : cullet ≤ chargeMass loi batch cullet := Nat.le_add_left ..

/-- A furnace request is refused, or it is taken after its checks. -/
theorem furnaceRequest_cases (furnace : Nat) (source target : FurnaceState) (bad : Option LineState → Bool)
    (effect : Furnace → State → State) (s : State) :
    (furnaceRequest furnace source target bad effect s).after = s ∨
      ∃ f : Furnace, s.furnaces[f].state = some source ∧ (∀ l, ¬ Blocks s f bad l) ∧
        (furnaceRequest furnace source target bad effect s).after =
          (effect f s).setFurnace f { (effect f s).furnaces[f] with state := some target } := by
  rcases Nat.lt_or_ge furnace 4 with hn | hn
  · obtain ⟨f, rfl⟩ : ∃ f : Furnace, f.val = furnace := ⟨⟨furnace, hn⟩, rfl⟩
    cases he : s.config.furnaces[f].enabled with
    | false => exact .inl (by rw [furnaceRequest_disabled he, refuse_after])
    | true =>
      cases hst : s.furnaces[f].state with
      | none => exact .inl (by rw [furnaceRequest_absent he hst, refuse_after])
      | some st =>
        rw [furnaceRequest_enabled he hst]
        split
        · next hs =>
          cases hb : firstLine s f bad with
          | some l => exact .inl rfl
          | none => exact .inr ⟨f, hs ▸ hst, firstLine_none.mp hb, rfl⟩
        · exact .inl rfl
  · exact .inl (by rw [furnaceRequest_range (by omega), refuse_after])

/-- A line request is refused, or it passes its first checks. -/
theorem lineRequest_cases (line : Nat) (fields : Bool) (taken : LineState → Bool) (s : State)
    (op : Line → LineRecord → LineState → Taken) :
    (lineRequest line fields taken s op).after = s ∨
      ∃ (l : Line) (st : LineState), s.lines[l].state = some st ∧ taken st = true ∧
        (lineRequest line fields taken s op).after = (op l s.lines[l] st).after := by
  unfold lineRequest
  split
  · next hn =>
    dsimp only
    split
    · exact .inl rfl
    · split
      · exact .inl rfl
      · cases hst : s.lines[(⟨line, hn⟩ : Line)].state with
        | none => exact .inl rfl
        | some st =>
          dsimp only
          split
          · next ht => exact .inr ⟨⟨line, hn⟩, st, hst, ht, rfl⟩
          · exact .inl rfl
  · exact .inl rfl

/-! ## Staging copies (R157, R162) -/

/-- A committed furnace region has its opening inventory in range. -/
theorem committed_inRange {s : State} (h : OpeningsInRange s) {x : Region} {g : FurnaceConfig}
    (hx : s.config.get x = .furnace g) : openingInRange g.openingMass g.openingCullet := by
  cases x <;> simp only [Configuration.get, reduceCtorEq, RegionValue.furnace.injEq] at hx
  subst hx
  exact h.1 _

theorem holdOf_some {s : State} {p : Port} {r : RegionNo} {h : Hold} (hh : holdOf p r s = some h) :
    s.locks[r].hold = some h :=
  (Option.filter_eq_some_iff.mp hh).1

theorem withField_kind (v : RegionValue) (field : Nat) (value : StageValue) :
    (v.withField field value).kind = v.kind := by
  unfold RegionValue.withField
  split <;> rfl

/-- What a field written into a furnace's region can change of its opening inventory, by the rows of the field table. -/
theorem furnace_withField (g : FurnaceConfig) (field : Nat) (value : StageValue) :
    ∃ g', (RegionValue.furnace g).withField field value = .furnace g' ∧
      (g'.openingMass = g.openingMass ∨ field = 7 ∧ value = .num g'.openingMass) ∧
      (g'.openingCullet = g.openingCullet ∨ field = 8 ∧ value = .num g'.openingCullet) := by
  unfold RegionValue.withField
  split <;> simp_all

theorem le_of_inForm {w low high n : Nat} (h : inForm (.number w low high) (.num n) = true) : n ≤ high :=
  (of_decide_eq_true h).2

/-- Field 7 of a region, of whatever kind, is a number within the range of an opening inventory mass. -/
theorem fieldForm_seven {kind : RegionKind} {form : FieldForm} (h : fieldForm kind 7 = some form) :
    ∃ w low high, form = .number w low high ∧ high ≤ inventoryLimit := by
  cases kind with
  | channel => exact ⟨1, 1, 247, (Option.some.inj h).symm, by decide⟩
  | furnace => exact ⟨6, 0, 10 ^ 12, (Option.some.inj h).symm, Nat.le_refl _⟩
  | carrier | line | plant => exact absurd h nofun

/-- Field 8 of a region, of whatever kind, is a number within the range of an opening cullet. -/
theorem fieldForm_eight {kind : RegionKind} {form : FieldForm} (h : fieldForm kind 8 = some form) :
    ∃ w low high, form = .number w low high ∧ high ≤ 1000 := by
  cases kind with
  | channel => exact ⟨1, 5, 60, (Option.some.inj h).symm, by decide⟩
  | furnace => exact ⟨2, 0, 1000, (Option.some.inj h).symm, Nat.le_refl _⟩
  | carrier | line | plant => exact absurd h nofun

/-- A staging copy with a field written, the opening fields within their ranges. -/
theorem withField_inRange {v : RegionValue} {field : Nat} {value : StageValue}
    (hv : ∀ g, v = .furnace g → openingInRange g.openingMass g.openingCullet)
    (hmass : ∀ n, value = .num n → field = 7 → n ≤ inventoryLimit)
    (hcullet : ∀ n, value = .num n → field = 8 → n ≤ 1000) :
    ∀ g, v.withField field value = .furnace g → openingInRange g.openingMass g.openingCullet := by
  intro g hg
  have hk : v.kind = .furnace := by
    rw [← withField_kind v field value, hg]
    rfl
  cases v with
  | furnace g0 =>
    obtain ⟨g', he, hm, hc⟩ := furnace_withField g0 field value
    obtain rfl := RegionValue.furnace.inj (he.symm.trans hg)
    obtain ⟨mass, cullet⟩ := hv g0 rfl
    refine ⟨?_, ?_⟩
    · rcases hm with hm | ⟨hfield, hvalue⟩
      · exact hm ▸ mass
      · exact hmass _ hvalue hfield
    · rcases hc with hc | ⟨hfield, hvalue⟩
      · exact hc ▸ cullet
      · exact hcullet _ hvalue hfield
  | channel | carrier | line | plant => exact absurd hk nofun

namespace Kept
variable {s t u : State}

/-! ## Charges, draws and tallies (R72 to R80, R97) -/

theorem draw (f : Furnace) (m : Nat) : Kept s (draw f m s) := by
  have hd : Kept s (s.setFurnace f (s.furnaces[f].drawn m)) :=
    setFurnace (fun hs => hs.drawn m) (fun hs ho => ho.drawn m hs) fun hm => .inl hm
  rw [draw_eq]
  split
  · exact hd.melt_right (raise_melt ..)
  · exact hd.melt_right rfl

theorem bookTally (l : Line) (m : TallyMasses) : Kept s (bookTally l m s) := by
  have hd : Kept s (tallyDrawn l m s) := by
    unfold tallyDrawn
    split
    · exact (of_melt (s := s) (t := tallied l m s) rfl).trans (draw _ _)
    · exact of_melt rfl
  rw [bookTally_eq]
  split
  · exact hd.melt_right (raise_melt ..)
  · exact hd

theorem takeCharge {f : Furnace} {serial batch cullet : Nat} (hc : s.furnaces[f].state ≠ some .cold)
    (hs : s.furnaces[f].lastSerial < serial) (hw : serial ≤ wordLimit)
    (hm : s.furnaces[f].inventoryMass + chargeMass s.config.furnaces[f].loi batch cullet ≤ inventoryLimit) :
    Kept s (takeCharge f serial batch cullet s) := by
  have hd : Kept s (s.setFurnace f (s.furnaces[f].charged serial (chargeMass s.config.furnaces[f].loi batch cullet)
      cullet s.interval.plantTime)) :=
    setFurnace (fun h => h.charged hc (cullet_le_chargeMass ..))
      (fun _ h => h.charged hs hw (cullet_le_chargeMass ..) hm) fun h => .inl h
  rw [takeCharge_eq]
  split
  · exact hd.melt_right (raise_melt ..)
  · exact hd.melt_right rfl

theorem reqChargePost (furnace serial batch cullet : Nat) :
    Kept s (reqChargePost furnace serial batch cullet s).after := by
  rcases Nat.lt_or_ge furnace 4 with hn | hn
  · obtain ⟨f, rfl⟩ : ∃ f : Furnace, f.val = furnace := ⟨⟨furnace, hn⟩, rfl⟩
    by_cases h : ChargeInRange serial batch cullet
    · rw [reqChargePost_inRange h]
      obtain ⟨-, hw, -, -⟩ := h
      split
      · exact refl s
      · split
        · exact refl s
        · next hc =>
          split
          · exact refl s
          · next hs =>
            split
            · exact refl s
            · next hm => exact takeCharge hc (Nat.not_le.mp hs) hw (Nat.not_lt.mp hm)
    · rw [reqChargePost_outOfRange h]
      exact refl s
  · rw [reqChargePost_furnace hn]
    exact refl s

/-! ## The state requests of a furnace (R64 to R70) -/

theorem setState {f : Furnace} {st : FurnaceState} (hc : st ≠ .cold)
    (state : s.furnaces[f].state = some .melting → st = .melting ∨ ∀ l, ¬ Blocks s f blocksHold l) :
    Kept s (s.setFurnace f { s.furnaces[f] with state := some st }) :=
  setFurnace (fun hs => hs.inState fun h => hc (Option.some.inj h)) (fun _ ho => ho)
    fun hm => (state hm).imp_left (congrArg some)

theorem reqFurnaceHold (furnace : Nat) : Kept s (reqFurnaceHold furnace s).after := by
  rcases furnaceRequest_cases furnace .melting .hold blocksHold (fun _ s => s) s with he | ⟨f, -, hb, he⟩ <;>
    rw [Machine.reqFurnaceHold, he]
  · exact refl s
  · exact setState nofun fun _ => .inr hb

theorem reqFurnaceResume (furnace : Nat) : Kept s (reqFurnaceResume furnace s).after := by
  rcases furnaceRequest_cases furnace .hold .melting (fun _ => false) (fun _ s => s) s with he | ⟨f, -, -, he⟩ <;>
    rw [Machine.reqFurnaceResume, he]
  · exact refl s
  · exact setState nofun fun _ => .inl rfl

theorem reqFurnaceWarm (furnace : Nat) : Kept s (reqFurnaceWarm furnace s).after := by
  rcases furnaceRequest_cases furnace .cold .hold (fun _ => false) (fun _ s => s) s with he | ⟨f, hst, -, he⟩ <;>
    rw [Machine.reqFurnaceWarm, he]
  · exact refl s
  · exact setState nofun fun hm => absurd (hst.symm.trans hm) nofun

theorem reqFurnaceShutdown (furnace : Nat) : Kept s (reqFurnaceShutdown furnace s).after := by
  rcases furnaceRequest_cases furnace .hold .cold blocksShutdown drain s with he | ⟨f, hst, -, he⟩ <;>
    rw [Machine.reqFurnaceShutdown, he]
  · exact refl s
  · rw [drain_setFurnace]
    exact (setFurnace (fun _ => FurnaceRecord.sound_of_empty rfl rfl rfl) (fun _ ho => ho.drained _)
      fun hm => absurd (hst.symm.trans hm) nofun).melt_right rfl

/-! ## Line requests (chapter 5) -/

theorem reqJobStart (line id gobMass gobsPerCut articleMass : Nat) :
    Kept s (reqJobStart line id gobMass gobsPerCut articleMass s).after := by
  unfold Machine.reqJobStart
  rcases lineRequest_cases line (jobInRange id gobMass gobsPerCut articleMass) (fun _ => true) s _ with
    he | ⟨l, st, hst, -, he⟩ <;> rw [he]
  · exact refl s
  · split
    · exact refl s
    · dsimp only
      split
      · exact setLine fun _ => .inl (by rw [hst]; rfl)
      · exact setLine fun _ => .inl (by rw [hst]; rfl)
      · exact setLine_same rfl

theorem reqJobReady (line : Nat) : Kept s (reqJobReady line s).after := by
  unfold Machine.reqJobReady
  rcases lineRequest_cases line true (· == .jobChange) s _ with he | ⟨l, st, hst, ht, he⟩ <;> rw [he]
  · exact refl s
  · exact setLine fun _ => .inl (by rw [hst, eq_of_beq ht]; rfl)

theorem tallyCurrent (l : Line) (st : LineState) (j : Job) (cuts packed : Nat) :
    Kept s (tallyCurrent l s.lines[l] st j cuts packed s).after := by
  unfold Machine.tallyCurrent
  dsimp only
  split
  · exact ((setLine (r := { s.lines[l] with
        current := some { j with cutsBase := cuts, packedBase := packed }, state := some .hold, holdDue := none })
      fun hw => absurd hw Bool.false_ne_true).trans (bookTally l _)).melt_right (raise_melt ..)
  · exact (setLine_same (l := l)
      (r := { s.lines[l] with current := some { j with cutsBase := cuts, packedBase := packed } }) rfl).trans
      (bookTally l _)

theorem tallyPrevious (l : Line) (st : LineState) (j : Job) (packed : Nat) :
    Kept s (tallyPrevious l s.lines[l] st j packed s).after := by
  unfold Machine.tallyPrevious
  dsimp only [accept_after]
  exact (setLine_same (l := l) (r := { s.lines[l] with previous := some { j with packedBase := packed } }) rfl).trans
    (bookTally l _)

theorem reqTallyPost (line id cuts packed : Nat) : Kept s (reqTallyPost line id cuts packed s).after := by
  unfold Machine.reqTallyPost
  rcases lineRequest_cases line _ (fun _ => true) s _ with he | ⟨l, st, hst, -, he⟩ <;> rw [he]
  · exact refl s
  · split
    · exact refl s
    · split
      · exact tallyCurrent ..
      · exact tallyPrevious ..
      · exact refl s

theorem reqLineHold (line : Nat) : Kept s (reqLineHold line s).after := by
  unfold Machine.reqLineHold
  rcases lineRequest_cases line true (fun st => st == .producing || st == .jobChange) s _ with
    he | ⟨l, st, hst, ht, he⟩ <;> rw [he]
  · exact refl s
  · refine setLine fun _ => .inl ?_
    rw [hst]
    rcases Bool.or_eq_true_iff.mp ht with h | h <;> rw [eq_of_beq h] <;> rfl

/-- A line resumes only where its furnace is enabled and MELTING (R104). -/
theorem reqLineResume (line : Nat) : Kept s (reqLineResume line s).after := by
  unfold Machine.reqLineResume
  rcases lineRequest_cases line true (· == .hold) s _ with he | ⟨l, st, -, -, he⟩ <;> rw [he]
  · exact refl s
  · have hfed : (if s.config.furnaces[s.config.lines[l].feeding].enabled = true then
        s.furnaces[s.config.lines[l].feeding].state else none) = some .melting → Fed s l := fun h => by
      split at h
      · next hen => exact ⟨hen, h⟩
      · exact absurd h nofun
    dsimp only
    generalize (if s.config.furnaces[s.config.lines[l].feeding].enabled = true then
      s.furnaces[s.config.lines[l].feeding].state else none) = feeding at hfed
    split
    · exact refl s
    · next hm =>
      have hm := Decidable.not_not.mp hm
      split
      · exact setLine fun _ => .inr (hfed hm)
      · exact setLine fun _ => .inr (hfed hm)
      · exact refl s

theorem reqLineShutdown (line : Nat) : Kept s (reqLineShutdown line s).after := by
  unfold Machine.reqLineShutdown
  rcases lineRequest_cases line true (· == .hold) s _ with he | ⟨l, st, -, -, he⟩ <;> rw [he]
  · exact refl s
  · exact setLine fun hw => absurd hw Bool.false_ne_true

theorem reqLineWarm (line : Nat) : Kept s (reqLineWarm line s).after := by
  unfold Machine.reqLineWarm
  rcases lineRequest_cases line true (· == .cold) s _ with he | ⟨l, st, -, -, he⟩ <;> rw [he]
  · exact refl s
  · exact setLine fun hw => absurd hw Bool.false_ne_true

theorem holdTimerExpiry {l : Line} (he : exec (.holdTimerExpiry l) s = .next t) : Kept s t := by
  obtain rfl := Host.Outcome.next.inj he
  dsimp only
  split
  · refine melt_right (setLine (l := l) (r := { s.lines[l] with state := some .hold, holdDue := none })
      fun hw => absurd hw Bool.false_ne_true) ?_
    rw [raise_melt, raise_melt]
  · exact refl s

/-! ## The lock table (chapter 9) -/

theorem grantNext (r : RegionNo) : Kept s (grantNext r s) := by
  unfold Machine.grantNext
  split
  · exact setLock fun _ _ _ hh => absurd hh nofun
  · refine (setLock (r := r) fun ho h g hh hg => ?_).melt_right rfl
    obtain rfl := Option.some.inj hh
    exact committed_inRange ho hg

theorem endHold (r : RegionNo) (p : Port) : Kept s (endHold r p s) :=
  (of_melt (setPortLock_melt s p { s.portLocks[p] with held := none })).trans (grantNext r)

theorem endWait (r : RegionNo) (p : Port) : Kept s (endWait r p s) :=
  (setLock_same (r := r) (k := { s.locks[r] with waitList := s.locks[r].waitList.filter (· != p) }) rfl).melt_right rfl

theorem dropLocks (p : Port) : Kept s (dropLocks p s) := by
  unfold Machine.dropLocks
  dsimp only
  split <;> split
  · exact (endHold _ p).trans (endWait _ p)
  · exact endWait _ p
  · exact endHold _ p
  · exact refl s

theorem expireIfSilent (r : RegionNo) : Kept s (expireIfSilent r s) := by
  unfold Machine.expireIfSilent expireLock
  split
  · split
    · exact refl s
    · exact (of_melt (raiseTo_melt ..)).trans (endHold r _)
  · exact refl s

theorem expireSilent : Kept s (expireSilent s) :=
  forEach_keeps (Kept s) _ _ (fun r _ _ ht => ht.trans (expireIfSilent r)) s (refl s)

theorem reorderWaitLists : Kept s (reorderWaitLists s) := by
  refine setLocks fun ho r h g hh => ?_
  rw [get_ofFn] at hh
  exact ho.2.1 r h g hh

/-- The hold of a region is written again, with the same staging copy or one whose opening inventory is in range. -/
theorem touch {r : RegionNo} {h : Hold}
    (hg : OpeningsInRange s → ∀ g, h.staging = .furnace g → openingInRange g.openingMass g.openingCullet) :
    Kept s (touch r h s) := by
  refine setLock fun ho h' g hh hs => ?_
  obtain rfl := Option.some.inj hh
  exact hg ho g hs

theorem touch_same {p : Port} {r : RegionNo} {h : Hold} (hh : holdOf p r s = some h) : Kept s (Machine.touch r h s) :=
  touch fun ho g hg => ho.2.1 r h g (holdOf_some hh) hg

/-! ### The requests of the lock table -/

theorem reqLock (p : Port) (region mode : Nat) : Kept s (reqLock p region mode s).after := by
  unfold Machine.reqLock
  split
  · next hr =>
    split
    · exact refl s
    · dsimp only
      split
      · exact refl s
      · exact refl s
      · split
        · refine (setLock (r := ⟨region, hr⟩) fun ho h g hh hg => ?_).melt_right (setPortLock_melt ..)
          obtain rfl := Option.some.inj hh
          exact committed_inRange ho hg
        · split
          · exact refl s
          · refine (setLock_same (r := ⟨region, hr⟩) ?_).melt_right (setPortLock_melt ..)
            rfl
  · exact refl s

theorem reqLockCancel (p : Port) : Kept s (reqLockCancel p s).after := by
  unfold Machine.reqLockCancel
  split
  · exact endWait _ p
  · exact refl s

theorem reqStageWrite (p : Port) (region field : Nat) (value : StageValue) :
    Kept s (reqStageWrite p region field value s).after := by
  unfold Machine.reqStageWrite
  split
  · dsimp only
    split
    · exact refl s
    · next form hform =>
      split
      · exact refl s
      · split
        · exact refl s
        · next h hh =>
          split
          · next hin =>
            refine touch fun ho => withField_inRange (fun g hg => ho.2.1 _ h g (holdOf_some hh) hg) ?_ ?_
            · rintro n rfl rfl
              obtain ⟨w, low, high, rfl, hle⟩ := fieldForm_seven hform
              exact (le_of_inForm hin).trans hle
            · rintro n rfl rfl
              obtain ⟨w, low, high, rfl, hle⟩ := fieldForm_eight hform
              exact (le_of_inForm hin).trans hle
          · exact touch_same hh
  · exact refl s

theorem reqConfigRead (p : Port) (region which : Nat) : Kept s (reqConfigRead p region which s).after := by
  unfold Machine.reqConfigRead
  split
  · split
    · exact refl s
    · dsimp only
      split
      · next hh => exact touch_same hh
      · split <;> exact refl s
  · exact refl s

theorem reqProveApply (p : Port) (channel : Nat) : Kept s (reqProveApply p channel s).after := by
  unfold Machine.reqProveApply
  split
  · dsimp only
    split
    · exact refl s
    · next h hh =>
      have trimmed (t : Int) : Kept s (stage (channelRegion ⟨channel, ‹_›⟩) h (h.staging.withField 12 (.trim t)) s) :=
        touch fun ho => withField_inRange (fun g hg => ho.2.1 _ h g (holdOf_some hh) hg) nofun nofun
      split
      · split
        · exact touch_same hh
        · split
          · exact trimmed _
          · exact touch_same hh
      · split
        · exact trimmed _
        · exact touch_same hh
  · exact refl s

end Kept

end Sys2Proof.Machine
end

section
/-! PROOF. O57 and O58: adoption, start-up and saving keep the three invariants, and so does every step. -/

namespace Sys2Proof.Machine

/-! ## The checks of a furnace's and of a line's region (R165) -/

/-- A furnace that a valid region disables feeds no enabled line. -/
theorem unfed_of_furnaceFailure {s : State} {f : Furnace} {new : FurnaceConfig}
    (hv : furnaceFailure s.config f new = none) (ho : s.config.furnaces[f].enabled = true) (hn : new.enabled = false)
    (l : Line) : ¬ feeds s f l = true := by
  intro hf
  have fed : ((List.finRange 12).any fun l => s.config.lines[l].enabled && s.config.lines[l].feeding == f) = true :=
    List.any_eq_true.mpr ⟨l, List.mem_finRange l, hf⟩
  unfold furnaceFailure failing at hv
  rw [ho, hn, fed] at hv
  simp at hv

/-- A valid region of a line that is enabled and not COLD leaves it enabled and at its furnace. -/
theorem unchanged_of_lineFailure {s : State} {l : Line} {new : LineConfig} (hv : lineFailure s l new = none)
    (ho : s.config.lines[l].enabled = true) (hs : s.lines[l].state ≠ some .cold) :
    new.enabled = true ∧ new.feeding = s.config.lines[l].feeding := by
  simp [lineFailure, failing, -Fin.getElem_fin] at hv
  obtain ⟨unchanged, -⟩ := hv
  obtain ⟨enabled, feeding⟩ := unchanged ho hs
  exact ⟨enabled ▸ ho, feeding.symm⟩

/-! ## Regions committed -/

/-- The part with a furnace's region committed, before its effects. -/
def withFurnaceRegion (f : Furnace) (new : FurnaceConfig) (s : State) : State :=
  s.setConfig { s.config with furnaces := s.config.furnaces.set f new }

/-- The part with a line's region committed, before its effects. -/
def withLineRegion (l : Line) (new : LineConfig) (s : State) : State :=
  s.setConfig { s.config with lines := s.config.lines.set l new }

/-- A line that starts is in HOLD, or has no state. -/
theorem not_blocksHold_startLine (g : LineConfig) : ¬ blocksHold (startLine g).state = true := by
  unfold startLine
  dsimp only
  split <;> exact Bool.false_ne_true

/-- A change of one line and its region leaves the lines fed, if that line works only where it did, at its furnace. -/
theorem fed_but_line {s t : State} {l : Line} (hf : LinesFed s) (regions : t.config.furnaces = s.config.furnaces)
    (furnaces : t.furnaces = s.furnaces)
    (others : ∀ l', l ≠ l' → t.config.lines[l'] = s.config.lines[l'] ∧ t.lines[l'] = s.lines[l'])
    (own : t.config.lines[l].enabled = true → blocksHold t.lines[l].state = true →
      s.config.lines[l].enabled = true ∧ blocksHold s.lines[l].state = true ∧
        t.config.lines[l].feeding = s.config.lines[l].feeding) : LinesFed t := by
  refine (linesFed_iff t).mpr fun l' he hw => ?_
  have before : s.config.lines[l'].enabled = true ∧ blocksHold s.lines[l'].state = true ∧
      t.config.lines[l'].feeding = s.config.lines[l'].feeding := by
    by_cases hl : l = l'
    · subst hl
      exact own he hw
    · obtain ⟨region, record⟩ := others l' hl
      rw [region] at he ⊢
      rw [record] at hw
      exact ⟨he, hw, rfl⟩
  obtain ⟨he', hw', feeding⟩ := before
  unfold Fed
  simp only [feeding, regions, furnaces]
  exact (linesFed_iff s).mp hf l' he' hw'

/-! ## The inventories of a save (R85, R189) -/

/-- A sound queue whose records hold no more cullet than glass holds no more cullet than glass. -/
theorem culletOf_le_massOf {l : List Charge} (h : Glassy l) : culletOf l ≤ massOf l :=
  List.sum_le_sum h

theorem savedInventory_inRange {s : State} (hs : QueuesSound s) (ho : QueuesOrdered s) (f : Furnace) :
    openingInRange (savedInventory s f).1 (savedInventory s f).2 := by
  obtain ⟨furnaces, committed, -⟩ := ho
  obtain ⟨mass, cullet, -⟩ := hs f
  obtain ⟨-, records, -, last, inventory⟩ := furnaces f
  have hk : s.furnaces[f].inventoryCullet ≤ s.furnaces[f].inventoryMass := by
    rw [← mass, ← cullet]
    exact culletOf_le_massOf fun q hq => (records q hq).2.1
  unfold savedInventory
  dsimp only
  split
  · split
    · exact ⟨inventory, permille_le hk⟩
    · exact ⟨Nat.zero_le _, last⟩
  · exact committed f

/-- A write of a save leaves inventories of the image and of the snapshot. -/
theorem writeImage_inventories (snap : ImageBody) (n : Nat) (i : Image) (f : Furnace) :
    (writeImage snap n i).body.inventories[f] = i.body.inventories[f] ∨
      (writeImage snap n i).body.inventories[f] = snap.inventories[f] := by
  unfold writeImage
  split
  · exact .inl rfl
  · split
    · exact .inl rfl
    · split
      · dsimp only
        next hf =>
        rw [get_set i.body.inventories ⟨n - 54, hf⟩ f]
        split
        · next h => exact .inr (h ▸ rfl)
        · exact .inl rfl
      · split <;> exact .inl rfl

namespace Kept
variable {s t u : State}

/-! ## Adoption (R71, R106, R166) -/

theorem furnaceRegion {f : Furnace} {new : FurnaceConfig} (hv : furnaceFailure s.config f new = none)
    (hn : OpeningsInRange s → openingInRange new.openingMass new.openingCullet) :
    Kept s (withFurnaceRegion f new s) where
  sound hs := hs
  ordered _ ho := by
    obtain ⟨furnaces, openings⟩ := ho
    obtain ⟨committed, rest⟩ := id openings
    refine ⟨furnaces, fun f' => ?_, rest⟩
    simp only [withFurnaceRegion, State.setConfig_config, get_set]
    split
    · exact hn openings
    · exact committed f'
  fed hf := by
    refine (linesFed_iff _).mpr fun l he hw => ?_
    obtain ⟨enabled, melting⟩ := (linesFed_iff s).mp hf l he hw
    refine ⟨?_, melting⟩
    simp only [withFurnaceRegion, State.setConfig_config, get_set]
    split
    · next hl =>
      cases hne : new.enabled with
      | true => rfl
      | false => exact absurd ((feeds_iff s f l).mpr ⟨he, hl.symm⟩) (unfed_of_furnaceFailure hv (hl ▸ enabled) hne l)
    · exact enabled

theorem adoptFurnace {f : Furnace} {new : FurnaceConfig} (hv : furnaceFailure s.config f new = none)
    (hn : OpeningsInRange s → openingInRange new.openingMass new.openingCullet) :
    Kept s (adoptFurnace f s.config.furnaces[f] new (withFurnaceRegion f new s)) := by
  have region := furnaceRegion hv hn
  unfold Machine.adoptFurnace
  split
  · next ho he =>
    refine ⟨fun hs => (region.sound hs).setFurnace (FurnaceRecord.sound_startFurnace ..), fun hs hq => ?_, fun hf => ?_⟩
    · exact (region.ordered hs hq).setFurnace (FurnaceRecord.ordered_startFurnace _ (hn hq.2))
    · refine (region.fed hf).setFurnace fun l hb => ?_
      exact absurd (hf.melting hb).1 (Bool.eq_false_iff.mp ho)
  · next ho he =>
    dsimp only
    rw [drain_setFurnace]
    refine melt_right (t := (withFurnaceRegion f new s).setFurnace f
      { s.furnaces[f] with state := none, queue := [], inventoryMass := 0, inventoryCullet := 0 })
      ⟨fun hs => (region.sound hs).setFurnace (FurnaceRecord.sound_of_empty rfl rfl rfl), fun hs hq => ?_, fun hf => ?_⟩
      rfl
    · exact (region.ordered hs hq).setFurnace ((hq.1 f).drained none)
    · exact (region.fed hf).setFurnace fun l hb => absurd hb.1 (unfed_of_furnaceFailure hv ho he l)
  · exact region

theorem adoptLine {l : Line} {new : LineConfig} (hv : lineFailure s l new = none) :
    Kept s (adoptLine l s.config.lines[l] new (withLineRegion l new s)) := by
  have region (l' : Line) (hl : l ≠ l') : (withLineRegion l new s).config.lines[l'] = s.config.lines[l'] :=
    get_set_ne _ _ _ _ hl
  have own : (withLineRegion l new s).config.lines[l] = new := get_set_self ..
  unfold Machine.adoptLine
  split
  · next same =>
    refine ⟨id, fun _ => id, fun hf => fed_but_line hf rfl rfl (fun l' hl => ⟨region l' hl, rfl⟩) fun he hw => ?_⟩
    change blocksHold s.lines[l].state = true at hw
    rw [own, ← same] at he
    refine ⟨he, hw, ?_⟩
    rw [own]
    refine (unchanged_of_lineFailure hv he fun hc => ?_).2
    rw [hc] at hw
    exact Bool.false_ne_true hw
  · refine ⟨id, fun _ => id, fun hf => fed_but_line (l := l) hf rfl rfl (fun l' hl => ?_) fun _ hw => ?_⟩
    · exact ⟨region l' hl, get_set_ne _ _ _ _ hl⟩
    · rw [State.setLine_lines, get_set_self] at hw
      exact absurd hw (not_blocksHold_startLine new)

/-- A staging copy that passes the checks keeps the invariants when it is adopted. -/
theorem adopt {r : RegionNo} {v : RegionValue} (hv : validate s r v = none)
    (hn : OpeningsInRange s → ∀ g, v = .furnace g → openingInRange g.openingMass g.openingCullet) :
    Kept s (adopt r v s) := by
  unfold Machine.adopt settleBeforeAdoption adoptEffects
  unfold validate at hv
  cases hr : regionOf r <;> cases v <;> simp only [hr, Configuration.get, Configuration.put] at hv ⊢
  case channel.channel c new =>
    refine of_melt ((adoptChannel_melt ..).trans ?_)
    split
    · exact (setConfig_melt _ rfl rfl).trans (settleOpenPool_melt ..)
    · exact setConfig_melt s rfl rfl
  case carrier.carrier k new => exact of_melt (setConfig_melt s rfl rfl)
  case furnace.furnace f new => exact adoptFurnace hv fun ho => hn ho new rfl
  case line.line l new => exact adoptLine hv
  case plant.plant new =>
    have hs : Kept s (s.setConfig { s.config with plant := new }) := of_melt (setConfig_melt s rfl rfl)
    split
    · exact hs.melt_right (setInterval_melt ..)
    · exact (hs.melt_right (setInterval_melt ..)).trans reorderWaitLists
  all_goals exact refl s

theorem reqRelease (p : Port) (action : Nat) : Kept s (reqRelease p action s).after := by
  unfold Machine.reqRelease
  split
  · exact refl s
  · split
    · exact refl s
    · next r _ =>
      split
      · exact endHold _ p
      · split
        · exact endHold _ p
        · next h hh =>
          split
          · exact endHold _ p
          · next hv =>
            have adopted : Kept s (Machine.endHold r p (Machine.adopt r h.staging s)) :=
              (adopt hv fun ho g hg => ho.2.1 r h g hh hg).trans (endHold r p)
            dsimp only [accept_after]
            unfold applyTimeout
            split
            · exact adopted
            · exact adopted.trans expireSilent

/-! ## Reset and start-up (R187) -/

theorem opened {g : Configuration}
    (hg : OpeningsInRange s → ∀ f : Furnace, openingInRange g.furnaces[f].openingMass g.furnaces[f].openingCullet) :
    Kept s (opened g s) where
  sound _ f := by
    simp only [Machine.opened, get_ofFn]
    exact FurnaceRecord.sound_startFurnace ..
  ordered _ ho := by
    obtain ⟨-, openings⟩ := ho
    obtain ⟨-, rest⟩ := id openings
    refine ⟨fun f => ?_, hg openings, rest⟩
    simp only [Machine.opened, get_ofFn]
    exact FurnaceRecord.ordered_startFurnace _ (hg openings f)
  fed _ := by
    refine (linesFed_iff _).mpr fun l _ hw => ?_
    simp only [Machine.opened, get_ofFn] at hw
    exact absurd hw (not_blocksHold_startLine _)

theorem adoptWhole {g : Configuration}
    (hg : OpeningsInRange s → ∀ f : Furnace, openingInRange g.furnaces[f].openingMass g.furnaces[f].openingCullet) :
    Kept s (adoptWhole g s) := by
  rw [adoptWhole_eq]
  refine (opened hg).melt_right (forEach_melt _ _ fun c t => ?_)
  unfold startChannel
  split
  · exact activate_melt t c
  · rfl

/-- The furnaces start from the inventories of the image (R187). -/
theorem loadedState (answered : Bool) : Kept s (loadedState answered s) := by
  unfold Machine.loadedState
  split
  · refine adoptWhole fun ho f => ?_
    simp only [ImageBody.configuration, get_ofFn]
    exact ho.2.2.1 f
  · exact (of_melt (s := s) (t := { s with loadFailed := true }) rfl).melt_right (raise_melt ..)

theorem configLoadDone {answered : Bool} (he : exec (.configLoadDone answered) s = .next t) : Kept s t := by
  obtain rfl := Host.Outcome.next.inj he
  split
  · exact (loadedState answered).melt_right rfl
  · exact refl s

theorem resetOf : Kept s (resetOf s) where
  sound _ f := by
    have hf : (Machine.resetOf s).furnaces = Vector.replicate 4 FurnaceRecord.reset := rfl
    rw [hf, get_replicate]
    exact FurnaceRecord.sound_of_empty rfl rfl rfl
  ordered _ ho := by
    obtain ⟨-, -, -, stored, -⟩ := ho
    refine ⟨fun f => ?_, fun f => ?_, fun r h g hh => ?_, stored, nofun⟩
    · have hf : (Machine.resetOf s).furnaces = Vector.replicate 4 FurnaceRecord.reset := rfl
      rw [hf, get_replicate]
      exact ⟨List.Pairwise.nil, fun _ h => absurd h List.not_mem_nil, Nat.zero_le _, Nat.zero_le _, Nat.zero_le _⟩
    · have hf : (Machine.resetOf s).config.furnaces = Vector.replicate 4 blankFurnace := rfl
      rw [hf, get_replicate]
      exact ⟨Nat.zero_le _, Nat.zero_le _⟩
    · have hl : (Machine.resetOf s).locks = Vector.replicate 53 { hold := none, waitList := [] } := rfl
      rw [hl, get_replicate] at hh
      exact absurd hh nofun
  fed _ := by
    refine (linesFed_iff _).mpr fun l he _ => ?_
    have hl : (Machine.resetOf s).config.lines = Vector.replicate 12 blankLine := rfl
    rw [hl, get_replicate] at he
    exact absurd he Bool.false_ne_true

/-! ## Saving (R85, R189, R190) -/

theorem reqSave : Kept s (reqSave s).after := by
  unfold Machine.reqSave
  split
  · exact refl s
  · refine of_openings rfl rfl rfl rfl fun hs ho => ?_
    obtain ⟨-, committed, staged, stored, -⟩ := id ho
    refine ⟨committed, staged, stored, fun v f hv => ?_⟩
    obtain rfl := Option.some.inj hv
    dsimp only [saveSnapshot]
    rw [get_ofFn]
    exact savedInventory_inRange hs ho f

theorem saveWriteAcknowledged (he : exec .saveWriteAcknowledged s = .next t) : Kept s t := by
  obtain rfl := Host.Outcome.next.inj he
  split
  · exact refl s
  · next v hv =>
    have written (ho : QueuesOrdered s) (f : Furnace) :
        openingInRange (writeImage v.snapshot v.written s.image).body.inventories[f].1
          (writeImage v.snapshot v.written s.image).body.inventories[f].2 := by
      obtain ⟨-, -, -, stored, saved⟩ := ho
      rcases writeImage_inventories v.snapshot v.written s.image f with h | h <;> rw [h]
      · exact stored f
      · exact saved v f hv
    dsimp only
    split
    · refine of_openings rfl rfl rfl rfl fun _ ho => ?_
      obtain ⟨-, committed, staged, -, saved⟩ := id ho
      refine ⟨committed, staged, written ho, fun w f hw => ?_⟩
      obtain rfl := Option.some.inj hw
      exact saved v f hv
    · refine of_openings rfl rfl rfl rfl fun _ ho => ?_
      obtain ⟨-, committed, staged, -, -⟩ := id ho
      exact ⟨committed, staged, written ho, nofun⟩

theorem saveAccessTimeout (he : exec .saveAccessTimeout s = .next t) : Kept s t := by
  obtain rfl := Host.Outcome.next.inj he
  split
  · exact refl s
  · split
    · refine melt_right (t := { s with save := none, image := { s.image with format := 0 } }) ?_ (raise_melt ..)
      refine of_openings rfl rfl rfl rfl fun _ ho => ?_
      obtain ⟨-, committed, staged, stored, -⟩ := ho
      exact ⟨committed, staged, stored, nofun⟩
    · exact refl s

/-! ## Every step -/

/-- Every request keeps the invariants. -/
theorem request (p : Port) (r : Request) : Kept s (requestOp p r s).after := by
  cases r with
  | status => exact refl s
  | meterPost c v t => exact of_melt (reqMeterPost_melt s c v t)
  | channelRead c => exact (reqChannelRead_after c s).symm ▸ refl s
  | channelRebase c => exact of_melt (reqChannelRebase_melt s c)
  | setSwitch n x => exact of_melt (reqSetSwitch_melt s p n x)
  | slotRead n => exact (reqSlotRead_after n s).symm ▸ refl s
  | liveRead n => exact (reqLiveRead_after n s).symm ▸ refl s
  | chargePost f n b x => exact reqChargePost f n b x
  | furnaceHold f => exact reqFurnaceHold f
  | furnaceResume f => exact reqFurnaceResume f
  | furnaceShutdown f => exact reqFurnaceShutdown f
  | furnaceWarm f => exact reqFurnaceWarm f
  | queueRead f n => exact (reqQueueRead_after f n s).symm ▸ refl s
  | jobStart l j g n a => exact reqJobStart l j g n a
  | jobReady l => exact reqJobReady l
  | tallyPost l j c x => exact reqTallyPost l j c x
  | lineHold l => exact reqLineHold l
  | lineResume l => exact reqLineResume l
  | lineShutdown l => exact reqLineShutdown l
  | lineWarm l => exact reqLineWarm l
  | stateRead l => exact (reqStateRead_after l s).symm ▸ refl s
  | timeSet n => exact of_melt (reqTimeSet_melt s n)
  | intervalRead => exact of_melt (reqIntervalRead_melt s p)
  | intervalReadAt n => exact (reqIntervalReadAt_after n s).symm ▸ refl s
  | cursorSet n => exact of_melt (reqCursorSet_melt s p n)
  | totalsRead n => exact (reqTotalsRead_after n s).symm ▸ refl s
  | campaignReset n => exact of_melt (reqCampaignReset_melt s n)
  | clearCounts => exact of_melt (reqClearCounts_melt s)
  | proveStart c d => exact of_melt (reqProveStart_melt s p c d)
  | proveStop => exact of_melt (reqProveStop_melt s)
  | proveApply c => exact reqProveApply p c
  | lock r m => exact reqLock p r m
  | lockCancel => exact reqLockCancel p
  | stageWrite r n v => exact reqStageWrite p r n v
  | configRead r w => exact reqConfigRead p r w
  | release a => exact reqRelease p a
  | alertRead => exact of_melt (reqAlertRead_melt s p)
  | alertClear a => exact of_melt (reqAlertClear_melt s p a)
  | alertMask a => exact of_melt (reqAlertMask_melt s p a)
  | save => exact reqSave

theorem link (s : State) : LinkKeeps (Kept s) where
  port _ _ _ _ h := h.melt_right (setPort_melt ..)
  request p r _ h := h.trans (request p r)
  drop p _ h := h.trans (dropLocks p)

/-- Every event keeps the invariants. -/
theorem event {i : Instr} (he : exec i s = .next t) (hr : i.asRequest = none) (hl : onLink i = false) : Kept s t := by
  cases hm : reachesMelt i with
  | false => exact of_melt (exec_melt he hm hr hl)
  | true =>
    cases i
    case hardwareReset =>
      obtain rfl := Host.Outcome.next.inj ((exec_hardwareReset s).symm.trans he)
      exact resetOf
    case configLoadDone => exact configLoadDone he
    case holdTimerExpiry => exact holdTimerExpiry he
    case lockExpiry r =>
      obtain rfl := Host.Outcome.next.inj he
      exact expireIfSilent r
    case saveWriteAcknowledged => exact saveWriteAcknowledged he
    case saveAccessTimeout => exact saveAccessTimeout he
    all_goals exact absurd hm Bool.false_ne_true

/-- Every command keeps the invariants. -/
theorem exec {i : Instr} (he : Machine.exec i s = .next t) : Kept s t :=
  (link s).exec (event he) (refl s) he

/-- Every step keeps the invariants: neither the queue nor the own clock is part of the melt. -/
theorem step (ht : Machine.step s = .next t) : Kept s t :=
  step_keeps (P := Kept s) (fun _ _ h => h.melt_right rfl) (fun _ _ h => h.melt_right rfl)
    (fun _ _ _ h he => h.trans (exec he)) (refl s) ht

end Kept

/-- Settles O57: what the melt of a state goes through in a step keeps the queues sound and in order. -/
theorem stepKeepsTheQueues : Obligations.StepKeepsTheQueues :=
  ⟨fun _ _ hs ht => (Kept.step ht).sound hs, fun _ _ hs ho ht => (Kept.step ht).ordered hs ho⟩

/-- Settles O58: a step that sets a line to work or takes a furnace out of MELTING looks at the other first. -/
theorem stepKeepsTheFurnacesMelting : Obligations.StepKeepsTheFurnacesMelting :=
  fun _ _ hf ht => (Kept.step ht).fed hf

end Sys2Proof.Machine
end

section
/-! PROOF. O34 and O35: the checks of a line request, and the jobs and states of a line. -/

namespace Sys2Proof.Machine

/-- In RUNNING the step of a request row answers what its operation gives. -/
theorem next_serve {p : Port} {tag : Octet} {r : Request} {op : State → Taken} {s t : State} {st : Status}
    {pl : List Octet} (hr : s.phase = .running) (h : op s = ⟨t, st, pl⟩) :
    (.next (serve p tag r op s) : Host.Outcome State Fault Refusal) = .next (replied p tag r st pl t) := by
  rw [serve_running p tag r op hr, h]

/-! ## Checks common to line requests (R91) -/

section
variable {fields : Bool} {taken : LineState → Bool} {op : Line → LineRecord → LineState → Taken} {s : State}

theorem lineRequest_range {n : Nat} (h : 11 < n ∨ fields = false) :
    lineRequest n fields taken s op = refuse s .range := by
  unfold lineRequest
  split
  · exact if_pos (h.resolve_left (by omega))
  · rfl

variable {l : Line} (hf : fields = true)
include hf

theorem lineRequest_disabled (he : s.config.lines[l].enabled = false) :
    lineRequest l.val fields taken s op = refuse s .notConfigured :=
  (dif_pos l.isLt).trans ((if_neg (ne_false_of_eq_true hf)).trans (if_pos he))

variable (he : s.config.lines[l].enabled = true) {st : LineState} (hst : s.lines[l].state = some st)
include he hst

/-- A request for an enabled line whose fields are in range turns on the line's state. -/
theorem lineRequest_enabled :
    lineRequest l.val fields taken s op =
      if taken st then op l s.lines[l] st else refuse s .wrongState (octets 1 st.code) := by
  unfold lineRequest
  rw [dif_pos l.isLt]
  dsimp only [Fin.eta]
  rw [if_neg (ne_false_of_eq_true hf), if_neg (ne_false_of_eq_true he), hst]

theorem lineRequest_taken (ht : taken st = true) : lineRequest l.val fields taken s op = op l s.lines[l] st :=
  (lineRequest_enabled hf he hst).trans (if_pos ht)

theorem lineRequest_wrongState (ht : taken st = false) :
    lineRequest l.val fields taken s op = refuse s .wrongState (octets 1 st.code) :=
  (lineRequest_enabled hf he hst).trans (if_neg (Bool.eq_false_iff.mp ht))

end

/-! ## Jobs (R92, R93) -/

theorem any_id_iff {o : Option Job} {id : Nat} : o.any (fun j => j.id == id) = true ↔ ∃ k, o = some k ∧ k.id = id := by
  cases o <;> simp

theorem not_any_id {o : Option Job} {id : Nat} (h : ∀ k, o = some k → k.id ≠ id) :
    ¬ o.any (fun j => j.id == id) = true := by
  rw [any_id_iff]
  rintro ⟨k, hk, hid⟩
  exact h k hk hid

/-- The status of a latched job tells a replaced one by either reading of the latch (R93). -/
theorem latchStatus_eq (o : Option Job) :
    (if o.isSome then Status.replaced else .ok) = if o = none then .ok else .replaced := by
  cases o <;> rfl

section
variable {id gob cut art : Nat} {l : Line} {s : State} {st : LineState} (hj : jobInRange id gob cut art = true)
  (he : s.config.lines[l].enabled = true) (hst : s.lines[l].state = some st)
include hj he hst

theorem reqJobStart_duplicate (h : ∃ k, s.lines[l].current = some k ∧ k.id = id) :
    reqJobStart l.val id gob cut art s = refuse s .duplicate :=
  (lineRequest_taken hj he hst rfl).trans (if_pos (any_id_iff.mpr h))

variable (hn : ∀ k, s.lines[l].current = some k → k.id ≠ id)
include hn

theorem reqJobStart_applied (h : st = .producing ∨ st = .jobChange) :
    reqJobStart l.val id gob cut art s =
      accept (s.setLine l (applyJob (newJob id gob cut art) s.lines[l])) (octets 1 1) := by
  refine ((lineRequest_taken hj he hst rfl).trans (if_neg (not_any_id hn))).trans ?_
  rcases h with rfl | rfl <;> rfl

theorem reqJobStart_latched (hp : st ≠ .producing) (hc : st ≠ .jobChange) :
    reqJobStart l.val id gob cut art s =
      ⟨s.setLine l { s.lines[l] with latched := some (newJob id gob cut art) },
        if s.lines[l].latched = none then .ok else .replaced, octets 1 st.code⟩ := by
  refine ((lineRequest_taken hj he hst rfl).trans (if_neg (not_any_id hn))).trans ?_
  rw [← latchStatus_eq]
  cases st
  case producing => exact absurd rfl hp
  case jobChange => exact absurd rfl hc
  all_goals rfl

end

/-- Settles O34: the checks of R91 in their order, and then the job is the current one, applied, or latched. -/
theorem jobStartAppliesOrLatches : Obligations.JobStartAppliesOrLatches := by
  refine fun p tag id gob cut art s hr => ⟨fun n hn => ?_, fun l fits => ⟨fun he => ?_,
    fun st he hst => ⟨fun hdup => ?_, fun hnew => ⟨fun happ => ?_, fun hp hc => ?_⟩⟩⟩⟩
  · exact next_serve hr (lineRequest_range (hn.imp_right decide_eq_false))
  · exact next_serve hr (lineRequest_disabled (decide_eq_true fits) he)
  · exact next_serve hr (reqJobStart_duplicate (decide_eq_true fits) he hst hdup)
  · exact next_serve hr (reqJobStart_applied (decide_eq_true fits) he hst hnew happ)
  · exact next_serve hr (reqJobStart_latched (decide_eq_true fits) he hst hnew hp hc)

/-! ## States (R94, R105) -/

/-- A request taken in one state of a line alone is refused in every other (R91). -/
theorem lineRequest_otherState {l : Line} {s : State} {st source : LineState}
    {op : Line → LineRecord → LineState → Taken} (he : s.config.lines[l].enabled = true)
    (hst : s.lines[l].state = some st) (h : st ≠ source) :
    lineRequest l.val true (· == source) s op = refuse s .wrongState (octets 1 st.code) :=
  lineRequest_wrongState rfl he hst (beq_false_of_ne h)

/-- Settles O35: each request is taken in its one source state, and a tally checks COLD after the checks of R91. -/
theorem lineStateRequests : Obligations.LineStateRequests := by
  refine fun p tag s hr => ⟨fun n hn => ?_, fun l he => ?_, fun l st he hst => ⟨⟨?_, fun h => ?_⟩, ⟨?_, fun h => ?_⟩,
    ⟨?_, fun h => ?_⟩, fun id cuts packed h1 hid hcuts hpacked hcold => ?_⟩⟩
  · refine ⟨?_, ?_, ?_⟩ <;> exact next_serve hr (lineRequest_range (.inl hn))
  · refine ⟨?_, ?_, ?_⟩ <;> exact next_serve hr (lineRequest_disabled rfl he)
  · rintro rfl
    exact next_serve hr (lineRequest_taken rfl he hst rfl)
  · exact next_serve hr (lineRequest_otherState he hst h)
  · rintro rfl
    exact next_serve hr (lineRequest_taken rfl he hst rfl)
  · exact next_serve hr (lineRequest_otherState he hst h)
  · rintro rfl
    exact next_serve hr (lineRequest_taken rfl he hst rfl)
  · exact next_serve hr (lineRequest_otherState he hst h)
  · have fits := decide_eq_true (And.intro h1 (And.intro hid (And.intro hcuts hpacked)))
    exact next_serve hr ((lineRequest_taken fits he hst rfl).trans (if_pos hcold))

end Sys2Proof.Machine
end

section
/-! PROOF. O36: whose job a tally is, and what it books by the state of its line. -/

namespace Sys2Proof.Machine

/-! ## Tallies (R95 to R99) -/

theorem increment_fst (base n : Nat) : (increment base n).1 = if base ≤ n then n - base else 0 :=
  apply_ite Prod.fst ..

theorem flagSet_increment (base n : Nat) : flagSet (increment base n).2 = octets 1 (if base ≤ n then 0 else 1) := by
  unfold increment
  split <;> rfl

theorem filter_id_some {o : Option Job} {id : Nat} {j : Job} (h : o = some j) (hid : j.id = id) :
    o.filter (fun k => k.id == id) = some j := by
  rw [h]
  exact if_pos (beq_iff_eq.mpr hid)

theorem filter_id_none {o : Option Job} {id : Nat} (h : ∀ k, o = some k → k.id ≠ id) :
    o.filter (fun k => k.id == id) = none :=
  Option.filter_eq_none_iff.mpr fun k hk hid => h k hk (eq_of_beq hid)

/-- The ranges of a tally's fields (R95). -/
abbrev TallyInRange (id cuts packed : Nat) : Prop := 1 ≤ id ∧ id ≤ wordLimit ∧ cuts ≤ wordLimit ∧ packed ≤ wordLimit

section
variable {id cuts packed : Nat} {l : Line} {s : State} {st : LineState} (fits : TallyInRange id cuts packed)
  (he : s.config.lines[l].enabled = true) (hst : s.lines[l].state = some st) (hc : st ≠ .cold)
include fits he hst hc

/-- A tally that passes the checks of R91 turns on whose job it is. -/
theorem reqTallyPost_enabled :
    reqTallyPost l.val id cuts packed s =
      match s.lines[l].current.filter (fun j => j.id == id), s.lines[l].previous.filter (fun j => j.id == id) with
      | some j, _ => tallyCurrent l s.lines[l] st j cuts packed s
      | none, some j => tallyPrevious l s.lines[l] st j packed s
      | none, none => refuse s .jobUnknown :=
  (lineRequest_taken (decide_eq_true fits) he hst rfl).trans (if_neg hc)

theorem reqTallyPost_current {j : Job} (hj : s.lines[l].current = some j) (hid : j.id = id) :
    reqTallyPost l.val id cuts packed s = tallyCurrent l s.lines[l] st j cuts packed s := by
  rw [reqTallyPost_enabled fits he hst hc, filter_id_some hj hid]

variable (hn : ∀ k, s.lines[l].current = some k → k.id ≠ id)
include hn

theorem reqTallyPost_previous {j : Job} (hj : s.lines[l].previous = some j) (hid : j.id = id) :
    reqTallyPost l.val id cuts packed s = tallyPrevious l s.lines[l] st j packed s := by
  rw [reqTallyPost_enabled fits he hst hc, filter_id_none hn, filter_id_some hj hid]

theorem reqTallyPost_unknown (hn' : ∀ k, s.lines[l].previous = some k → k.id ≠ id) :
    reqTallyPost l.val id cuts packed s = refuse s .jobUnknown := by
  rw [reqTallyPost_enabled fits he hst hc, filter_id_none hn, filter_id_none hn']

end

/-- The octets of a tally's reply, with the marks of restarted counts as numbers (R95). -/
def tallyPayload (job cutsBack packBack : Nat) (m : TallyMasses) (st : LineState) : List Octet :=
  octets 1 job ++ octets 1 cutsBack ++ octets 1 packBack ++ octets 8 m.pulled ++ octets 6 m.packed ++
    octets 8 m.change ++ octets 4 m.absorbed ++ octets 1 st.code

theorem tallyReply_increments (job base cuts base' packed : Nat) (m : TallyMasses) (st : LineState) :
    tallyReply job (increment base cuts).2 (increment base' packed).2 m st =
      tallyPayload job (if base ≤ cuts then 0 else 1) (if base' ≤ packed then 0 else 1) m st := by
  rw [tallyReply, flagSet_increment, flagSet_increment]
  rfl

theorem tallyReply_late (job base packed : Nat) (m : TallyMasses) (st : LineState) :
    tallyReply job false (increment base packed).2 m st =
      tallyPayload job 0 (if base ≤ packed then 0 else 1) m st := by
  rw [tallyReply, flagSet_increment]
  rfl

theorem bookingState_resume (r : LineRecord) : bookingState r .holdPending = LineState.ofResume r.resume := by
  unfold bookingState
  cases r.resume <;> rfl

section
variable {l : Line} {r : LineRecord} {st : LineState} {j : Job} {cuts packed : Nat} {m : TallyMasses}

/-- What a tally of the current job books, by the rules of one state (R96, R97). -/
abbrev CurrentTallyBooks (st : LineState) (j : Job) (cuts packed : Nat) (m : TallyMasses) : Prop :=
  tallyMasses st j (if j.cutsBase ≤ cuts then cuts - j.cutsBase else 0)
    (if j.packedBase ≤ packed then packed - j.packedBase else 0) = m

/-- Outside HOLD_PENDING a tally is booked and the line stays in its state. -/
theorem tallyCurrent_stays (h : st ≠ .holdPending) (hm : CurrentTallyBooks (bookingState r st) j cuts packed m)
    (s : State) :
    tallyCurrent l r st j cuts packed s =
      accept (bookTally l m (s.setLine l { r with current := some { j with cutsBase := cuts, packedBase := packed } }))
        (tallyPayload 0 (if j.cutsBase ≤ cuts then 0 else 1) (if j.packedBase ≤ packed then 0 else 1) m st) := by
  rw [← hm, ← tallyReply_increments, ← increment_fst, ← increment_fst]
  exact if_neg h

/-- In HOLD_PENDING a tally is the bounding tally, booked by the rules of the resume state (R97, R101). -/
theorem tallyCurrent_bounds {resume : ResumeState} (h : st = .holdPending) (hr : r.resume = resume)
    (hm : CurrentTallyBooks (LineState.ofResume resume) j cuts packed m) (s : State) :
    tallyCurrent l r st j cuts packed s =
      accept
        (raise .lineHeld (some l.val) (bookTally l m (s.setLine l
          { r with current := some { j with cutsBase := cuts, packedBase := packed },
                   state := some .hold, holdDue := none })))
        (tallyPayload 0 (if j.cutsBase ≤ cuts then 0 else 1) (if j.packedBase ≤ packed then 0 else 1) m .hold) := by
  rw [← hm, ← tallyReply_increments, ← increment_fst, ← increment_fst, ← hr, ← bookingState_resume, ← h]
  exact if_pos h

/-- A tally of the previous job books its packs alone (R98). -/
theorem tallyPrevious_eq (s : State) :
    tallyPrevious l r st j packed s =
      let m : TallyMasses := ⟨0, 0, (if j.packedBase ≤ packed then packed - j.packedBase else 0) * j.articleMass, 0⟩
      accept (bookTally l m (s.setLine l { r with previous := some { j with packedBase := packed } }))
        (tallyPayload 1 0 (if j.packedBase ≤ packed then 0 else 1) m st) := by
  rw [tallyPrevious, tallyReply_late, increment_fst]

end

/-- Settles O36: a tally passes the checks of R91, finds its job, and books by the line's state. -/
theorem tallyBooksByState : Obligations.TallyBooksByState := by
  refine fun p tag id cuts packed s hr => ⟨fun n hn => ?_, fun l fits he => ?_, fun l st fits he hst hc =>
    ⟨fun j hj hid => ?_, fun j hn hj hid => ?_, fun hn hn' => ?_⟩⟩
  · exact next_serve hr (lineRequest_range (hn.imp_right decide_eq_false))
  · exact next_serve hr (lineRequest_disabled (decide_eq_true fits) he)
  · have current := reqTallyPost_current fits he hst hc hj hid
    refine ⟨?producing, ?jobChange, ?hold, fun hp hres => ?boundsProducing, fun hp hres => ?boundsChange⟩
    case producing =>
      rintro rfl
      exact next_serve hr (current.trans (tallyCurrent_stays (m := ⟨_, 0, _, 0⟩) LineState.noConfusion rfl s))
    case jobChange =>
      rintro rfl
      exact next_serve hr (current.trans (tallyCurrent_stays (m := ⟨_, _, 0, 0⟩) LineState.noConfusion rfl s))
    case hold =>
      rintro rfl
      exact next_serve hr (current.trans (tallyCurrent_stays (m := ⟨0, 0, _, _⟩) LineState.noConfusion rfl s))
    case boundsProducing =>
      exact next_serve hr (current.trans (tallyCurrent_bounds (m := ⟨_, 0, _, 0⟩) hp hres rfl s))
    case boundsChange =>
      exact next_serve hr (current.trans (tallyCurrent_bounds (m := ⟨_, _, 0, 0⟩) hp hres rfl s))
  · exact next_serve hr ((reqTallyPost_previous fits he hst hc hn hj hid).trans (tallyPrevious_eq s))
  · exact next_serve hr (reqTallyPost_unknown fits he hst hc hn hn')

end Sys2Proof.Machine
end

section
/-! PROOF. O37: the hold handshake, and the end of a hold. -/

namespace Sys2Proof.Machine

/-! ## The hold handshake (R100, R102) -/

section
variable {l : Line} {s : State}

/-- HOLD_TIMER_EXPIRY forces a hold where the handshake's timer has run out. -/
theorem exec_holdTimerExpiry_forces {due : Nat} (hst : s.lines[l].state = some .holdPending)
    (hd : s.lines[l].holdDue = some due) (h : due ≤ s.clock) :
    exec (.holdTimerExpiry l) s =
      .next (raise .lineHeld (some l.val) (raise .holdForced (some l.val)
        (s.setLine l { s.lines[l] with state := some .hold, holdDue := none }))) :=
  congrArg Host.Outcome.next (if_pos ⟨hst, reached_of hd h⟩)

/-- An expiry that cannot come about changes nothing (log entry 13). -/
theorem exec_holdTimerExpiry_idle (h : ¬ (s.lines[l].state = some .holdPending ∧ reached s s.lines[l].holdDue = true)) :
    exec (.holdTimerExpiry l) s = .next s :=
  congrArg Host.Outcome.next (if_neg h)

end

/-! ## Resuming (R104) -/

/-- The state of the furnace that feeds a line, absent where the furnace is not enabled. -/
def feedingState (s : State) (l : Line) : Option FurnaceState :=
  if s.config.furnaces[s.config.lines[l].feeding].enabled then s.furnaces[s.config.lines[l].feeding].state else none

theorem feedingState_melting (s : State) (l : Line) :
    feedingState s l = some .melting ↔
      s.config.furnaces[s.config.lines[l].feeding].enabled = true ∧
        s.furnaces[s.config.lines[l].feeding].state = some .melting := by
  unfold feedingState
  split <;> simp_all

section
variable {l : Line} {s : State} (he : s.config.lines[l].enabled = true) (hst : s.lines[l].state = some .hold)
include he hst

theorem reqLineResume_notMelting (h : feedingState s l ≠ some .melting) :
    reqLineResume l.val s =
      refuse s .furnaceNotMelting
        (octets 1 s.config.lines[l].feeding.val ++ furnaceStateCode (feedingState s l)) :=
  (lineRequest_taken rfl he hst rfl).trans (if_pos h)

variable (h : feedingState s l = some .melting)
include h

/-- A LINE_RESUME that the furnace lets through turns on the latched and the current job. -/
theorem reqLineResume_melting :
    reqLineResume l.val s =
      match s.lines[l].latched, s.lines[l].current with
      | some j, _ =>
        accept (s.setLine l { applyJob j s.lines[l] with latched := none }) (octets 1 1 ++ octets 4 j.id)
      | none, some j =>
        accept (s.setLine l { s.lines[l] with state := some (LineState.ofResume s.lines[l].resume) })
          (octets 1 (LineState.ofResume s.lines[l].resume).code ++ octets 4 j.id)
      | none, none => refuse s .noJob :=
  (lineRequest_taken rfl he hst rfl).trans (if_neg (not_not_intro h))

theorem reqLineResume_latched {j : Job} (hj : s.lines[l].latched = some j) :
    reqLineResume l.val s =
      accept (s.setLine l { applyJob j s.lines[l] with latched := none }) (octets 1 1 ++ octets 4 j.id) := by
  rw [reqLineResume_melting he hst h, hj]

theorem reqLineResume_current {j : Job} (hl : s.lines[l].latched = none) (hj : s.lines[l].current = some j) :
    reqLineResume l.val s =
      accept (s.setLine l { s.lines[l] with state := some (LineState.ofResume s.lines[l].resume) })
        (octets 1 (LineState.ofResume s.lines[l].resume).code ++ octets 4 j.id) := by
  rw [reqLineResume_melting he hst h, hl, hj]

theorem reqLineResume_noJob (hl : s.lines[l].latched = none) (hj : s.lines[l].current = none) :
    reqLineResume l.val s = refuse s .noJob := by
  rw [reqLineResume_melting he hst h, hl, hj]

end

/-- Settles O37: the handshake's timer, the refusals of R91, and a resume by the feeding furnace and the jobs. -/
theorem holdHandshakeAndResume : Obligations.HoldHandshakeAndResume := by
  refine fun l s => ⟨fun due hst hd => ⟨fun h => exec_holdTimerExpiry_forces hst hd h, fun h => ?_⟩, fun hst => ?_,
    fun p tag n why hr hwhy => ?_, fun p tag st hr he hst => ⟨?_, ?_, fun hp hc => ?_, fun hh => ?_, ?_⟩⟩
  · exact exec_holdTimerExpiry_idle fun x => not_reached hd h x.2
  · exact exec_holdTimerExpiry_idle fun x => hst x.1
  · rcases hwhy with ⟨hn, rfl⟩ | ⟨rfl, he, rfl⟩
    · constructor <;> exact next_serve hr (lineRequest_range (.inl hn))
    · constructor <;> exact next_serve hr (lineRequest_disabled rfl he)
  · rintro rfl
    exact next_serve hr (lineRequest_taken rfl he hst rfl)
  · rintro rfl
    exact next_serve hr (lineRequest_taken rfl he hst rfl)
  · refine next_serve hr (lineRequest_wrongState rfl he hst ?_)
    exact Bool.or_eq_false_iff.mpr ⟨beq_false_of_ne hp, beq_false_of_ne hc⟩
  · exact next_serve hr (lineRequest_otherState he hst hh)
  · rintro rfl
    refine ⟨fun hm => ?_, fun hm => ?_⟩
    · exact next_serve hr (reqLineResume_notMelting he hst ((feedingState_melting s l).not.mpr hm))
    · have melting := (feedingState_melting s l).mpr hm
      refine ⟨fun j hj => ?_, fun j hl hj => ?_, fun hl hj => ?_⟩
      · exact next_serve hr (reqLineResume_latched he hst melting hj)
      · exact next_serve hr (reqLineResume_current he hst melting hl hj)
      · exact next_serve hr (reqLineResume_noJob he hst melting hl hj)

end Sys2Proof.Machine
end

section
/-! PROOF. O42: the rounding of the specific energy figures, and where they are held. -/

namespace Sys2Proof.Machine

/-! ## Codes held at 999,999 (R125) -/

@[simp] theorem heldCode_code (code : Nat) : (heldCode code).code = min code 999999 := by
  unfold heldCode
  split <;> dsimp only <;> omega

theorem heldCode_saturated_iff (code : Nat) : (heldCode code).mark = .saturated ↔ 999999 < code := by
  unfold heldCode
  split <;> simp [*]

@[simp] theorem heldCode_ne_notFormed (code : Nat) : (heldCode code).mark ≠ .notFormed := by
  unfold heldCode
  split <;> simp

theorem heldCode_within {code : Nat} (h : code ≤ 999999) : heldCode code = { code := code, mark := .formed } :=
  if_neg (Nat.not_lt.mpr h)

theorem heldCode_above {code : Nat} (h : 999999 < code) : heldCode code = { code := 999999, mark := .saturated } :=
  if_pos h

/-! ## The figure of an energy and a mass (R125, R126) -/

section
variable {min m : Nat} (e : Nat)

theorem figure_notFormed (h : m < min) : figure min e m = { code := 0, mark := .notFormed } := if_pos h

theorem figure_held (h : min ≤ m) : figure min e m = heldCode ((2 * e * 10000 + m) / (2 * m)) :=
  if_neg (Nat.not_lt.mpr h)

theorem figure_notFormed_iff : (figure min e m).mark = .notFormed ↔ m < min := by
  rcases Nat.lt_or_ge m min with h | h
  · simp [figure_notFormed e h, h]
  · simp [figure_held e h, Nat.not_lt.mpr h]

theorem figure_code_le : (figure min e m).code ≤ 999999 := by
  rcases Nat.lt_or_ge m min with h | h
  · simp [figure_notFormed e h]
  · simp [figure_held e h]

end

/-! ## SE_NORM (R128) -/

section
variable (s r c : Nat) {se : Figure}

theorem normMultiplier_eq_max :
    (normMultiplier s r c : Int) = max 0 (100000 + (s : Int) * ((c : Int) - r)) := by
  rw [normMultiplier, Int.toNat_eq_max, max_comm]

/-- SE_FURNACE x M / 100,000 to the nearest code, before it is held. -/
def normCode (se : Figure) : Nat := (2 * se.code * normMultiplier s r c + 100000) / 200000

theorem normFigure_notFormed (h : se.mark = .notFormed) :
    normFigure s r c se = { code := 0, mark := .notFormed } := by
  rw [normFigure, h]

theorem normFigure_formed (h : se.mark = .formed) : normFigure s r c se = heldCode (normCode s r c se) := by
  rw [normFigure, h]
  rfl

theorem normFigure_saturated (h : se.mark = .saturated) :
    normFigure s r c se = { heldCode (normCode s r c se) with mark := .saturated } := by
  rw [normFigure, h]
  rfl

theorem normFigure_notFormed_iff : (normFigure s r c se).mark = .notFormed ↔ se.mark = .notFormed := by
  cases h : se.mark with
  | notFormed => simp [normFigure_notFormed s r c h]
  | formed => simp [normFigure_formed s r c h]
  | saturated => simp [normFigure_saturated s r c h]

/-- Where SE_NORM is formed at all, its code is the rounded one, held. -/
theorem normFigure_code (h : se.mark ≠ .notFormed) : (normFigure s r c se).code = min (normCode s r c se) 999999 := by
  cases hm : se.mark with
  | notFormed => exact absurd hm h
  | formed => rw [normFigure_formed s r c hm, heldCode_code]
  | saturated => rw [normFigure_saturated s r c hm, heldCode_code]

theorem normFigure_code_le : (normFigure s r c se).code ≤ 999999 := by
  by_cases h : se.mark = .notFormed
  · simp [normFigure_notFormed s r c h]
  · exact normFigure_code s r c h ▸ Nat.min_le_right ..

/-- The code of R128 is the one number within a half below and above the product. -/
theorem normCode_eq {n : Nat}
    (hlo : (n : Int) * 200000 ≤ 2 * se.code * max 0 (100000 + (s : Int) * ((c : Int) - r)) + 100000)
    (hhi : 2 * se.code * max 0 (100000 + (s : Int) * ((c : Int) - r)) + 100000 < ((n : Int) + 1) * 200000) :
    normCode s r c se = n := by
  rw [← normMultiplier_eq_max] at hlo hhi
  exact Nat.div_eq_of_lt_le (by exact_mod_cast hlo) (by exact_mod_cast hhi)

end

/-- Settles O42: every code is a quotient of naturals, held by `heldCode`. -/
theorem figuresAreRoundedAndHeld : Obligations.FiguresAreRoundedAndHeld := by
  refine ⟨fun min e m _ => ⟨figure_code_le e, figure_notFormed_iff e, fun h => ?_, fun h n hlo hhi => ?_⟩,
    fun s r c se _ => ⟨normFigure_code_le s r c, normFigure_notFormed_iff s r c, fun h => ?_, fun h => ?_,
      fun h n hlo hhi => ⟨?_, fun hf => ?_⟩⟩⟩
  · rw [figure_notFormed e h]
  · rw [figure_held e h, Nat.div_eq_of_lt_le hlo hhi]
    exact ⟨heldCode_within, heldCode_above⟩
  · rw [normFigure_notFormed s r c h]
  · rw [normFigure_saturated s r c h]
  · rw [normFigure_code s r c h, normCode_eq s r c hlo hhi]
  · rw [normFigure_formed s r c hf, heldCode_saturated_iff, normCode_eq s r c hlo hhi]

end Sys2Proof.Machine
end

section
/-! PROOF. O43: the entries of a record, the energy that they hold, and the melt shares. -/

namespace Sys2Proof.Machine

/-! ## Which consumers have an entry (R123) -/

theorem FurnaceSums.bne_zero_iff (a : FurnaceSums) : (a != .zero) = true ↔ ∃ k, 0 < a.get k := by
  rw [bne_iff_ne]
  constructor
  · refine fun hne => by_contra fun hall => hne ?_
    have zero : ∀ k, a.get k = 0 := fun k => Nat.eq_zero_of_not_pos fun hk => hall ⟨k, hk⟩
    obtain ⟨producing, standby, melted, pulled, cullet, unbacked, drained⟩ := a
    rw [FurnaceSums.zero, FurnaceSums.mk.injEq]
    exact ⟨zero .producing, zero .standby, zero .melted, zero .pulled, zero .cullet, zero .unbacked, zero .drained⟩
  · rintro ⟨k, hk⟩ rfl
    exact absurd hk (by rw [FurnaceSums.zero_get]; exact Nat.lt_irrefl 0)

theorem LineSums.bne_zero_iff (a : LineSums) : (a != .zero) = true ↔ ∃ k, 0 < a.get k := by
  rw [bne_iff_ne]
  constructor
  · refine fun hne => by_contra fun hall => hne ?_
    have zero : ∀ k, a.get k = 0 := fun k => Nat.eq_zero_of_not_pos fun hk => hall ⟨k, hk⟩
    obtain ⟨producing, standby, pulled, packed, change⟩ := a
    rw [LineSums.zero, LineSums.mk.injEq]
    exact ⟨zero .producing, zero .standby, zero .pulled, zero .packed, zero .change⟩
  · rintro ⟨k, hk⟩ rfl
    exact absurd hk (by rw [LineSums.zero_get]; exact Nat.lt_irrefl 0)

section
variable (snap : Snapshot) (b : Bank)

theorem furnaceHasEntry_iff (f : Furnace) :
    furnaceHasEntry snap b f = true ↔ snap.furnaces[f].enabled = true ∨ ∃ a, 0 < b.get (.furnace f a) := by
  rw [furnaceHasEntry, Bool.or_eq_true, FurnaceSums.bne_zero_iff]
  rfl

theorem lineHasEntry_iff (l : Line) :
    lineHasEntry snap b l = true ↔ snap.lines[l].enabled = true ∨ ∃ a, 0 < b.get (.line l a) := by
  rw [lineHasEntry, Bool.or_eq_true, LineSums.bne_zero_iff]
  rfl

theorem furnace_get_of_no_entry {f : Furnace} (h : ¬ furnaceHasEntry snap b f = true) (a : FurnaceKey) :
    b.get (.furnace f a) = 0 :=
  Nat.eq_zero_of_not_pos fun ha => h ((furnaceHasEntry_iff snap b f).mpr (.inr ⟨a, ha⟩))

theorem line_get_of_no_entry {l : Line} (h : ¬ lineHasEntry snap b l = true) (a : LineKey) :
    b.get (.line l a) = 0 :=
  Nat.eq_zero_of_not_pos fun ha => h ((lineHasEntry_iff snap b l).mpr (.inr ⟨a, ha⟩))

end

/-! ## The entries of a record (R130 to R132) -/

section
variable {k : Closing} {b : Bank}

theorem mem_furnaces_iff {e : FurnaceEntry} : e ∈ (closeRecord k b).furnaces ↔
    ∃ f, furnaceHasEntry k.snapshot b f = true ∧ furnaceEntry k.snapshot b f = e := by
  simp [closeRecord]

theorem mem_lines_iff {e : LineEntry} : e ∈ (closeRecord k b).lines ↔
    ∃ l, lineHasEntry k.snapshot b l = true ∧ lineEntry k.snapshot b l = e := by
  simp [closeRecord]

/-- Picking some of the numbers in order and something with that number for each keeps the order. -/
theorem pairwise_lt_entries {n : Nat} {α : Type} (p : Fin n → Bool) (entry : Fin n → α) (number : α → Nat)
    (h : ∀ i, number (entry i) = i.val) :
    ((((List.finRange n).filter p).map entry).map number).Pairwise (· < ·) := by
  rw [List.pairwise_map, List.pairwise_map]
  refine ((List.sortedLT_finRange n).pairwise.filter p).imp fun {i j} hij => ?_
  rw [h i, h j]
  exact hij

theorem outOfBand_iff (low high : Nat) (g : Figure) :
    outOfBand low high g = true ↔ g.mark ≠ .notFormed ∧ (g.code < low ∨ high < g.code) := by
  simp [outOfBand]

/-! ## The energy that the entries hold (R133) -/

/-- Leaving out terms of 0 leaves a sum. -/
theorem sum_map_filter_of_zero {α : Type} (l : List α) {p : α → Bool} {g : α → Nat}
    (h : ∀ x, ¬ p x = true → g x = 0) :
    ((l.filter p).map g).sum = (l.map g).sum := by
  rw [sum_map_filter]
  exact congrArg List.sum (List.map_congr_left fun x _ => ite_eq_left_iff.mpr fun hx => (h x hx).symm)

theorem closeRecord_energy (k : Closing) (b : Bank) : (closeRecord k b).energy = b.energy := by
  have furnaces : ((closeRecord k b).furnaces.map fun e => e.producing + e.standby).sum =
      ((List.finRange 4).map fun f : Furnace => b.furnaces[f].producing + b.furnaces[f].standby).sum := by
    refine (congrArg List.sum List.map_map).trans (sum_map_filter_of_zero _ fun f hf => ?_)
    exact congrArg₂ (· + ·) (furnace_get_of_no_entry _ b hf .producing) (furnace_get_of_no_entry _ b hf .standby)
  have lines : ((closeRecord k b).lines.map fun e => e.producing + e.standby).sum =
      ((List.finRange 12).map fun l : Line => b.lines[l].producing + b.lines[l].standby).sum := by
    refine (congrArg List.sum List.map_map).trans (sum_map_filter_of_zero _ fun l hl => ?_)
    exact congrArg₂ (· + ·) (line_get_of_no_entry _ b hl .producing) (line_get_of_no_entry _ b hl .standby)
  rw [IntervalResult.energy, furnaces, lines]
  rfl

end

/-! ## The snapshot (R115) -/

section
variable (s : State)

theorem takeSnapshot_furnace (f : Furnace) : (takeSnapshot s).furnaces[f] = furnaceSnapshot s f := get_ofFn ..

theorem takeSnapshot_line (l : Line) : (takeSnapshot s).lines[l] = lineSnapshot s l := get_ofFn ..

theorem takeSnapshot_list (c : Chan) : (takeSnapshot s).lists[c] = listSnapshot s c := get_ofFn ..

end

/-! ## Melt shares (R124) -/

/-- Each of some different things finds its own part. -/
theorem map_lookup_zip {α : Type} [BEq α] [LawfulBEq α] {ls : List α} (hn : ls.Nodup) {parts : List Nat}
    (h : parts.length = ls.length) : (ls.map fun l => ((ls.zip parts).lookup l).getD 0) = parts := by
  induction ls generalizing parts with
  | nil => exact (List.length_eq_zero_iff.mp h).symm
  | cons l ls ih =>
    obtain ⟨hl, hls⟩ := List.nodup_cons.mp hn
    cases parts with
    | nil => exact absurd h (by simp)
    | cons x parts =>
      rw [List.map_cons, List.zip_cons_cons, List.lookup_cons_self, Option.getD_some]
      refine congrArg (x :: ·) (Eq.trans (List.map_congr_left fun l' hl' => ?_) (ih hls (Nat.succ.inj h)))
      have hne : (l' == l) = false := beq_false_of_ne fun he => hl (he ▸ hl')
      rw [List.lookup_cons, hne]

section
variable {snap : Snapshot} (b : Bank) {f : Furnace}

theorem mem_sharers {l : Line} :
    l ∈ sharers snap f ↔ snap.lines[l].enabled = true ∧ snap.lines[l].feeding = f := by
  simp [sharers, -Fin.getElem_fin]

theorem sharers_nodup (snap : Snapshot) (f : Furnace) : (sharers snap f).Nodup :=
  (List.nodup_finRange 12).filter _

/-- The pulled masses by which a furnace's melting energy is shared. -/
def shareBases (snap : Snapshot) (b : Bank) (f : Furnace) : List Nat :=
  (sharers snap f).map fun l => b.lines[l].pulled

theorem meltShare_of_disabled {l : Line} (h : snap.lines[l].enabled = false) : meltShare snap b l = 0 := by
  simp [meltShare, h, -Fin.getElem_fin]

theorem meltShare_of_sharer {l : Line} (h : l ∈ sharers snap f) :
    meltShare snap b l = ((meltShares snap b f).lookup l).getD 0 := by
  obtain ⟨enabled, rfl⟩ := mem_sharers.mp h
  exact if_pos enabled

variable {b}

theorem shareBases_pos (h : ∃ l ∈ sharers snap f, 0 < b.lines[l].pulled) :
    (shareBases snap b f).any (0 < ·) = true := by
  obtain ⟨l, hl, hp⟩ := h
  exact List.any_eq_true.mpr ⟨_, List.mem_map_of_mem hl, decide_eq_true hp⟩

theorem shareBases_sum_pos (h : ∃ l ∈ sharers snap f, 0 < b.lines[l].pulled) : 0 < (shareBases snap b f).sum := by
  obtain ⟨l, hl, hp⟩ := h
  exact Nat.lt_of_lt_of_le hp (List.le_sum_of_mem (List.mem_map_of_mem hl))

/-- Where one of the lines pulled, their shares are the split of the producing energy by what they pulled. -/
theorem map_meltShare_eq_split (he : furnaceHasEntry snap b f = true)
    (hp : ∃ l ∈ sharers snap f, 0 < b.lines[l].pulled) :
    (sharers snap f).map (meltShare snap b) = split b.furnaces[f].producing (shareBases snap b f) := by
  have shares : meltShares snap b f =
      (sharers snap f).zip (split b.furnaces[f].producing (shareBases snap b f)) :=
    if_pos (Bool.and_eq_true_iff.mpr ⟨he, shareBases_pos hp⟩)
  rw [List.map_congr_left fun l hl => meltShare_of_sharer b hl, shares]
  exact map_lookup_zip (sharers_nodup snap f) (by rw [split_length, shareBases, List.length_map])

/-- Where a furnace has no entry or none of its lines pulled, there is nothing to share. -/
theorem meltShare_of_none {l : Line} (hl : l ∈ sharers snap f)
    (h : furnaceHasEntry snap b f = false ∨ ∀ l ∈ sharers snap f, b.lines[l].pulled = 0) :
    meltShare snap b l = 0 := by
  have nothing : meltShares snap b f = [] := by
    refine if_neg fun hs => ?_
    obtain ⟨entry, bases⟩ := Bool.and_eq_true_iff.mp hs
    rcases h with no | zero
    · exact absurd entry (by simp [no])
    · obtain ⟨x, hx, pos⟩ := List.any_eq_true.mp bases
      obtain ⟨l', hl', rfl⟩ := List.mem_map.mp hx
      simp [zero l' hl', -Fin.getElem_fin] at pos
  rw [meltShare_of_sharer b hl, nothing]
  rfl

/-- A line that pulled nothing has no share. -/
theorem meltShare_of_not_pulled {l : Line} (hl : l ∈ sharers snap f) (h : b.lines[l].pulled = 0) :
    meltShare snap b l = 0 := by
  by_cases hs : furnaceHasEntry snap b f = true ∧ ∃ l ∈ sharers snap f, 0 < b.lines[l].pulled
  · obtain ⟨he, hp⟩ := hs
    obtain ⟨i, hi, rfl⟩ := List.getElem_of_mem hl
    have base : (shareBases snap b f).getD i 0 = 0 := by
      rw [shareBases, List.getD_eq_getElem _ _ (by rwa [List.length_map]), List.getElem_map]
      exact h
    have part := split_getD_zero b.furnaces[f].producing (shareBases_sum_pos hp) base
    rw [← map_meltShare_eq_split he hp, List.getD_eq_getElem _ _ (by rwa [List.length_map]), List.getElem_map] at part
    exact part
  · refine meltShare_of_none hl ((Bool.eq_false_or_eq_true _).symm.imp_right fun he l' hl' => ?_)
    exact Nat.eq_zero_of_not_pos fun hp => hs ⟨he, l', hl', hp⟩

end

/-- Settles O43: entries are kept where there is something to hold, and shares are the parts of a split. -/
theorem recordBalancesAndSharesAreWhole : Obligations.RecordBalancesAndSharesAreWhole := by
  refine ⟨fun k b => ⟨closeRecord_energy k b, rfl, (closeRecord_energy k b).trans, fun f => ?_, fun l => ?_⟩,
    fun k b => ⟨rfl, pairwise_lt_entries _ _ _ fun _ => rfl, pairwise_lt_entries _ _ _ fun _ => rfl,
      fun e he => ?_, fun e he => ?_⟩,
    fun s => ⟨takeSnapshot_furnace s, takeSnapshot_line s, takeSnapshot_list s⟩,
    fun snap b f => ⟨fun he => ⟨fun hp => ?_, fun h0 l hl => ?_⟩, fun l => meltShare_of_disabled b,
      fun l => meltShare_of_not_pulled⟩⟩
  · rw [← furnaceHasEntry_iff]
    simp only [mem_furnaces_iff]
    constructor
    · rintro ⟨e, ⟨f', hf', rfl⟩, rfl⟩
      exact hf'
    · exact fun hf => ⟨_, ⟨f, hf, rfl⟩, rfl⟩
  · rw [← lineHasEntry_iff]
    simp only [mem_lines_iff]
    constructor
    · rintro ⟨e, ⟨l', hl', rfl⟩, rfl, -⟩
      exact hl'
    · exact fun hl => ⟨_, ⟨l, hl, rfl⟩, rfl, rfl⟩
  · obtain ⟨f, -, rfl⟩ := mem_furnaces_iff.mp he
    exact ⟨rfl, Bool.and_eq_true_iff.trans (and_congr_right fun _ => outOfBand_iff ..)⟩
  · obtain ⟨l, -, rfl⟩ := mem_lines_iff.mp he
    exact ⟨rfl, Bool.and_eq_true_iff.trans (and_congr_right fun _ => outOfBand_iff ..)⟩
  · have shares := map_meltShare_eq_split ((furnaceHasEntry_iff snap b f).mpr he) hp
    exact ⟨shares, (congrArg List.sum shares).trans (split_sum _ (ne_nil_of_sum_pos (shareBases_sum_pos hp)))⟩
  · exact meltShare_of_none hl (.inr h0)

end Sys2Proof.Machine
end

section
/-! PROOF. O41: the parts of the end of a close: settlement, ring and cursors, campaign totals, alerts, and the close that
was waiting. -/

namespace Sys2Proof.Machine

/-! ## What is left in the closing pools is settled (R54, R119) -/

section
variable {snap : Snapshot} {c : Chan} {s : State}

theorem settleClosingPool_unlisted (h : snap.lists[c] = none) : settleClosingPool snap c s = s := by
  rw [settleClosingPool, h]

theorem settleClosingPool_listed {l : List Entry} (h : snap.lists[c] = some l) :
    settleClosingPool snap c s =
      (s.setClosingBank (settle l s.pools[c].closing s.closingBank)).setPool c { s.pools[c] with closing := 0 } := by
  rw [settleClosingPool, h]

theorem settleClosingPool_opened (snap : Snapshot) (c c' : Chan) (s : State) :
    (settleClosingPool snap c s).pools[c'].opened = s.pools[c'].opened := by
  cases h : snap.lists[c] with
  | none => rw [settleClosingPool_unlisted h]
  | some l =>
    rw [settleClosingPool_listed h, State.setPool_pools, get_set]
    split
    · next he => rw [← he]
    · rfl

theorem settleClosingPool_closing (h : snap.lists[c] ≠ none) : (settleClosingPool snap c s).pools[c].closing = 0 := by
  obtain ⟨l, hl⟩ := Option.ne_none_iff_exists'.mp h
  rw [settleClosingPool_listed hl, State.setPool_pools, get_set_self]

theorem settleClosingPool_other {c' : Chan} (h : c ≠ c') : (settleClosingPool snap c s).pools[c'] = s.pools[c'] := by
  cases hl : snap.lists[c] with
  | none => rw [settleClosingPool_unlisted hl]
  | some l => rw [settleClosingPool_listed hl, State.setPool_pools, get_set_ne _ _ _ _ h, State.setClosingBank_pools]

end

/-- `t` is `s` with the closing pools of some channels settled into the closing bank. -/
structure SettledUpTo (snap : Snapshot) (s : State) (done : List Chan) (t : State) : Prop where
  frame : { t with pools := s.pools, closingBank := s.closingBank } = s
  opened : ∀ c : Chan, t.pools[c].opened = s.pools[c].opened
  closing : ∀ c ∈ done, snap.lists[c] ≠ none → t.pools[c].closing = 0

theorem SettledUpTo.step {snap : Snapshot} {s t : State} {done : List Chan} {c : Chan} (hc : c ∉ done)
    (h : SettledUpTo snap s done t) : SettledUpTo snap s (done ++ [c]) (settleClosingPool snap c t) where
  frame := by
    rw [settleClosingPool_frame]
    exact h.frame
  opened c' := (settleClosingPool_opened snap c c' t).trans (h.opened c')
  closing c' hm hl := by
    rcases List.mem_append.mp hm with hd | he
    · have hne : c ≠ c' := fun he => hc (he.symm ▸ hd)
      rw [settleClosingPool_other hne]
      exact h.closing c' hd hl
    · obtain rfl := List.mem_singleton.mp he
      exact settleClosingPool_closing hl

/-- The state of a close in flight with every closing pool settled (log entry 22). -/
def allSettled (snap : Snapshot) (s : State) : State := forEach (List.finRange 32) (settleClosingPool snap) s

theorem settledUpTo_allSettled (snap : Snapshot) (s : State) :
    SettledUpTo snap s (List.finRange 32) (allSettled snap s) :=
  forEach_induct (SettledUpTo snap s) (List.nodup_finRange 32) (fun _ _ _ _ hn h => h.step hn)
    ⟨rfl, fun _ => rfl, fun _ h => absurd h List.not_mem_nil⟩

/-- Settling changes the pools and the closing bank alone. -/
theorem allSettled_frame (snap : Snapshot) (s : State) :
    allSettled snap s =
      { s with pools := (allSettled snap s).pools, closingBank := (allSettled snap s).closingBank } :=
  congrArg (fun u : State =>
      { u with pools := (allSettled snap s).pools, closingBank := (allSettled snap s).closingBank })
    (settledUpTo_allSettled snap s).frame

/-! ## The ring and the cursors (R135) -/

section
variable (r : IntervalResult) (ring : List IntervalResult)

theorem pushRecord_eq : pushRecord r ring = ring.drop (ring.length - 47) ++ [r] := by
  rw [pushRecord, ringLimit, Nat.add_sub_add_right]

theorem pushRecord_ne_nil : pushRecord r ring ≠ [] := by simp [pushRecord]

variable {ring} {removed : List IntervalResult} {k : Cursor}

theorem moveCursor_kept (h : ∀ x ∈ removed, x.number ≠ k.number) : moveCursor removed ring k = k := by
  refine if_neg fun hr => ?_
  obtain ⟨x, hx, he⟩ := List.any_eq_true.mp hr
  exact h x hx (beq_iff_eq.mp he)

theorem moveCursor_moved {first : IntervalResult} {rest : List IntervalResult}
    (h : ∃ x ∈ removed, x.number = k.number) :
    moveCursor removed (first :: rest) k = { number := first.number, gap := true } := by
  obtain ⟨x, hx, he⟩ := h
  have hr : removed.any (·.number == k.number) = true := List.any_eq_true.mpr ⟨x, hx, beq_iff_eq.mpr he⟩
  exact if_pos hr

theorem writeRecord_cursor (s : State) (p : Port) :
    (writeRecord r s).cursors[p] =
      moveCursor (s.ring.take (s.ring.length - 47)) (pushRecord r s.ring) s.cursors[p] := by
  rw [writeRecord, get_ofFn, ringLimit, Nat.add_sub_add_right]

end

/-! ## The campaign totals (R142) -/

theorem satOver_iff (limit a x : Nat) : satOver limit a x = true ↔ limit < a + x := decide_eq_true_iff

theorem any_furnaceKeys (p : FurnaceKey → Bool) : furnaceKeys.any p = true ↔ ∃ k, p k = true := by
  refine List.any_eq_true.trans (exists_congr fun k => and_iff_right ?_)
  cases k <;> decide

theorem any_lineKeys (p : LineKey → Bool) : lineKeys.any p = true ↔ ∃ k, p k = true := by
  refine List.any_eq_true.trans (exists_congr fun k => and_iff_right ?_)
  cases k <;> decide

/-- R142: an account has one interval more, held at 2^32 - 1, and the lower-bound mark where the bank was saturated or
one of its accumulators passed. -/
def Since.Counted (old new : Since) (saturated : Bool) (passed : Prop) : Prop :=
  new.interval = old.interval ∧ new.time = old.time ∧
  new.added = (if old.added < 2 ^ 32 - 1 then old.added + 1 else old.added) ∧
  (new.lowerBound = true ↔ old.lowerBound = true ∨ saturated = true ∨ passed)

theorem Since.closed_counted (a : Since) {short saturated : Bool} {passed : Prop}
    (h : short = true ↔ saturated = true ∨ passed) : Since.Counted a (a.closed short) saturated passed :=
  ⟨rfl, rfl, rfl, Bool.or_eq_true_iff.trans (or_congr_right h)⟩

theorem FurnaceAccount.close_counted (a : FurnaceAccount) (x : FurnaceSums) (saturated : Bool) :
    Since.Counted a.since (a.close x saturated).since saturated (∃ k, totalsLimit < a.sums.get k + x.get k) :=
  a.since.closed_counted (by simp only [Bool.or_eq_true, any_furnaceKeys, satOver_iff])

theorem LineAccount.close_counted (a : LineAccount) (x : LineSums) (share : Nat) (saturated : Bool) :
    Since.Counted a.since (a.close x share saturated).since saturated
      (totalsLimit < a.meltShare + share ∨ ∃ k, totalsLimit < a.sums.get k + x.get k) :=
  a.since.closed_counted (by simp only [Bool.or_eq_true, any_lineKeys, satOver_iff, or_assoc])

theorem CommonAccount.close_counted (a : CommonAccount) (x : Nat) (saturated : Bool) :
    Since.Counted a.since (a.close x saturated).since saturated (totalsLimit < a.energy + x) :=
  a.since.closed_counted (by simp only [Bool.or_eq_true, satOver_iff])

/-- What `addTotals` adds is what R142 says. -/
theorem addTotals_totalsAdded (r : IntervalResult) (b : Bank) (t : Totals) : TotalsAdded r b t (addTotals r b t) := by
  refine ⟨fun f => ?_, fun l => ?_, rfl, t.common.close_counted b.common b.saturated⟩
  · have account : (addTotals r b t).furnaces[f] = t.furnaces[f].close b.furnaces[f] b.saturated := get_ofFn ..
    rw [account]
    exact ⟨FurnaceSums.plus_get _ _, FurnaceAccount.close_counted ..⟩
  · have account : (addTotals r b t).lines[l] = t.lines[l].close b.lines[l] (recordShare r l) b.saturated := get_ofFn ..
    rw [account]
    unfold recordShare
    dsimp only
    cases r.lines.find? (fun e => e.line == l) <;>
      exact ⟨LineSums.plus_get _ _, rfl, LineAccount.close_counted ..⟩

/-! ## The alerts of a written record (R120, R130) -/

/-- One source raised for each of some objects. -/
theorem forEach_raise_raisedJust (src : AlertSource) (objs : List Nat) (s : State) :
    RaisedJust (fun x o => x = src ∧ ∃ n ∈ objs, o = some n) s (forEach objs (fun n => raise src (some n)) s) := by
  induction objs generalizing s with
  | nil => exact raisedJust_none rfl rfl fun _ _ ⟨_, _, h, _⟩ => absurd h List.not_mem_nil
  | cons n objs ih =>
    rw [forEach_cons]
    refine ((raise_raisedJust src (some n) s).trans (ih (raise src (some n) s))).congr fun x o => ?_
    simp only [List.mem_cons, or_and_right, exists_or, exists_eq_left, and_or_left]

/-- INTERVAL_CLOSED and SE_BAND raised for a record. -/
def announce (r : IntervalResult) (s : State) : State :=
  forEach (bandObjects r) (fun n => raise .seBand (some n)) (raise .intervalClosed none s)

theorem announce_frame (r : IntervalResult) (s : State) :
    announce r s = { s with alerts := (announce r s).alerts, ports := (announce r s).ports } := by
  have h : ({ announce r s with alerts := s.alerts, ports := s.ports } : State) = s := by
    refine forEach_keeps (fun t => ({ t with alerts := s.alerts, ports := s.ports } : State) = s) _ _ ?_ _ ?_
    · intro n _ t ht
      rw [raise_frame]
      exact ht
    · rw [raise_frame]
  exact congrArg (fun u : State => { u with alerts := (announce r s).alerts, ports := (announce r s).ports }) h

theorem announce_raisedJust (r : IntervalResult) (s : State) :
    RaisedJust (fun src obj => (src = .intervalClosed ∧ obj = none) ∨
      (src = .seBand ∧ ∃ n ∈ bandObjects r, obj = some n)) s (announce r s) :=
  (raise_raisedJust .intervalClosed none s).trans (forEach_raise_raisedJust .seBand (bandObjects r) _)

theorem mem_bandObjects (r : IntervalResult) (n : Nat) :
    n ∈ bandObjects r ↔
      (∃ e ∈ r.furnaces, e.outOfBand = true ∧ n = e.furnace.val) ∨
        ∃ e ∈ r.lines, e.outOfBand = true ∧ n = e.line.val + 4 := by
  simp only [bandObjects, List.mem_append, List.mem_map, List.mem_filter, and_assoc, eq_comm (a := n)]

/-! ## The end of a close (R119, R120) -/

/-- The closing bank of a close in flight with what is left settled. -/
def settledBank (k : Closing) (s : State) : Bank := (allSettled k.snapshot s).closingBank

/-- The record that the end of a close writes. -/
def recordOf (k : Closing) (s : State) : IntervalResult := closeRecord k (settledBank k s)

/-- The record written, the totals with their addition, and the closing bank emptied. -/
def recordWritten (k : Closing) (s : State) : State :=
  { s with
    pools := (allSettled k.snapshot s).pools, closingBank := .zero, ring := pushRecord (recordOf k s) s.ring,
    cursors := (writeRecord (recordOf k s) s).cursors,
    totals := addTotals (recordOf k s) (settledBank k s) s.totals }

/-- A close that has ended: its record is written and announced, and no close is in flight. A waiting close has not begun
yet. -/
def closeEnded (k : Closing) (s : State) : State :=
  (announce (recordOf k s) (recordWritten k s)).setInterval { s.interval with closing := none, waiting := .none }

section
variable (k : Closing) (s : State)

theorem recordWritten_eq :
    ((writeRecord (recordOf k s) (allSettled k.snapshot s)).setTotals
      (addTotals (recordOf k s) (settledBank k s) (allSettled k.snapshot s).totals)).setClosingBank .zero =
      recordWritten k s := by
  unfold recordWritten
  generalize recordOf k s = r, settledBank k s = b
  rw [allSettled_frame]
  rfl

theorem announce_interval (r : IntervalResult) (t : State) : (announce r t).interval = t.interval := by
  rw [announce_frame]

/-- The end of a close is what has ended, and then the close that was waiting. -/
theorem endClose_eq : endClose k s = beginWaiting s.interval.waiting (closeEnded k s) := by
  have model : endClose k s =
      let u := announce (recordOf k s)
        (((writeRecord (recordOf k s) (allSettled k.snapshot s)).setTotals
          (addTotals (recordOf k s) (settledBank k s) (allSettled k.snapshot s).totals)).setClosingBank .zero)
      beginWaiting u.interval.waiting (u.setInterval { u.interval with closing := none, waiting := .none }) := rfl
  rw [model, recordWritten_eq]
  dsimp only
  rw [announce_interval]
  rfl

theorem exec_closeEnd (h : s.interval.closing = some k) :
    exec .closeEnd s = .next (beginWaiting s.interval.waiting (closeEnded k s)) := by
  rw [← endClose_eq]
  refine congrArg Host.Outcome.next ?_
  rw [h]

theorem exec_closeEnd_idle (h : s.interval.closing = none) : exec .closeEnd s = .next s := by
  refine congrArg Host.Outcome.next ?_
  rw [h]

/-- What the end of a close leaves in each field, but for what its alerts change. -/
theorem closeEnded_frame : closeEnded k s =
    { recordWritten k s with
      interval := { s.interval with closing := none, waiting := .none },
      alerts := (closeEnded k s).alerts, ports := (closeEnded k s).ports } := by
  unfold closeEnded
  rw [announce_frame]
  rfl

theorem closeEnded_raisedJust :
    RaisedJust (fun src obj => (src = .intervalClosed ∧ obj = none) ∨
      (src = .seBand ∧ ∃ n ∈ bandObjects (recordOf k s), obj = some n)) s (closeEnded k s) :=
  (announce_raisedJust (recordOf k s) (recordWritten k s)).of_same ⟨rfl, rfl⟩ ⟨rfl, rfl⟩

theorem closeEnded_pools : (closeEnded k s).pools = (allSettled k.snapshot s).pools := by rw [closeEnded_frame]; rfl

theorem closeEnded_ring : (closeEnded k s).ring = pushRecord (recordOf k s) s.ring := by rw [closeEnded_frame]; rfl

theorem closeEnded_cursor (p : Port) : (closeEnded k s).cursors[p] =
    moveCursor (s.ring.take (s.ring.length - 47)) (closeEnded k s).ring s.cursors[p] := by
  rw [closeEnded_ring, ← writeRecord_cursor, closeEnded_frame]
  rfl

theorem closeEnded_totals : (closeEnded k s).totals = addTotals (recordOf k s) (settledBank k s) s.totals := by
  rw [closeEnded_frame]
  rfl

end

/-- Settles O41: `closeEnded` is the state in which the close has ended, and `beginWaiting` begins the one that waited. -/
theorem closeEndWritesAndAdds : Obligations.CloseEndWritesAndAdds := by
  refine ⟨exec_closeEnd_idle, fun s k hk => ⟨beginWaiting s.interval.waiting (closeEnded k s),
    closeEnded k s, exec_closeEnd k s hk, ?_, ?_, ?_, fun p => ⟨fun h => ?_, fun h => ?_⟩, ?_, rfl, fun c => ?_,
    fun c hl => ?_, closeEnded_raisedJust k s, mem_bandObjects _, fun hw => ?_, fun hw e he => ?_, fun hw => ?_⟩⟩
  · rw [closeEnded_frame]
    rfl
  · exact (closeEnded_ring k s).trans (pushRecord_eq _ _)
  · rw [closeEnded_totals]
    exact addTotals_totalsAdded _ _ _
  · rw [closeEnded_cursor, moveCursor_kept h]
  · obtain ⟨first, rest, hr⟩ := List.exists_cons_of_ne_nil (closeEnded_ring k s ▸ pushRecord_ne_nil _ _)
    exact ⟨first, rest, hr, by rw [closeEnded_cursor, hr, moveCursor_moved h]⟩
  · rw [closeEnded_frame]
    rfl
  · rw [closeEnded_pools]
    exact (settledUpTo_allSettled k.snapshot s).opened c
  · rw [closeEnded_pools]
    exact (settledUpTo_allSettled k.snapshot s).closing c (List.mem_finRange c) hl
  · rw [hw]
    rfl
  · have begun : beginWaiting .expiry (closeEnded k s) = beginClose e e false (closeEnded k s) := beginExpiry_eq he
    rw [hw, begun]
    exact beginClose_closeBegun e e false (closeEnded k s)
  · rw [hw]
    exact beginClose_closeBegun wordLimit 0 true (closeEnded k s)

end Sys2Proof.Machine
end

section
/-! PROOF. O53: what the invariant of the results ring looks at, and the operations that leave all of it. -/

namespace Sys2Proof.Machine

/-! ## The rack -/

/-- What the invariant of the results ring looks at: the records and cursors, the close in flight, and the number of the
open interval. -/
structure Rack where
  ring    : List IntervalResult
  cursors : Vector Cursor 4
  closing : Option Closing
  number  : Nat

/-- The rack of a state. -/
def State.rack (s : State) : Rack :=
  { ring := s.ring, cursors := s.cursors, closing := s.interval.closing, number := s.interval.number }

section
variable (s : State)

@[simp] theorem setChannel_rack (c : Chan) (r : ChannelRecord) : (s.setChannel c r).rack = s.rack := rfl
@[simp] theorem setLine_rack (l : Line) (r : LineRecord) : (s.setLine l r).rack = s.rack := rfl
@[simp] theorem setConfig_rack (g : Configuration) : (s.setConfig g).rack = s.rack := rfl
@[simp] theorem raise_rack (src : AlertSource) (obj : Option Nat) : (raise src obj s).rack = s.rack :=
  (congrArg State.rack (raise_frame src obj s) :)

theorem setInterval_rack {r : IntervalRecord} (closing : r.closing = s.interval.closing)
    (number : r.number = s.interval.number) : (s.setInterval r).rack = s.rack := by
  simp only [State.rack, State.setInterval, closing, number]

theorem forEach_rack {α : Type} (xs : List α) {f : α → State → State} (h : ∀ x t, (f x t).rack = t.rack) :
    (forEach xs f s).rack = s.rack :=
  forEach_keeps (fun t => t.rack = s.rack) xs f (fun x _ t ht => (h x t).trans ht) s rfl

/-! ## Readings and channels (chapter 1) -/

@[simp] theorem endRun_rack (o : ProveOutcome) (d : Int) : (endRun o d s).rack = s.rack :=
  (congrArg State.rack (endRun_frame o d s) :)
@[simp] theorem abortRun_rack (c : Chan) : (abortRun c s).rack = s.rack := (congrArg State.rack (abortRun_frame c s) :)
@[simp] theorem sendChannel_rack (c : Chan) (st : ChannelState) : (sendChannel c st s).rack = s.rack :=
  (congrArg State.rack (sendChannel_frame c st s) :)
@[simp] theorem enterStale_rack (c : Chan) : (enterStale c s).rack = s.rack :=
  (congrArg State.rack (enterStale_frame c s) :)
@[simp] theorem finishReading_rack (c : Chan) (o : ReadingOutcome) (u : Nat) (base : Option Nat)
    (tag : Option Consumer) : (finishReading c o u base tag s).after.rack = s.rack :=
  (congrArg State.rack (finishReading_frame c o u base tag s) :)

@[simp] theorem takeTotal_rack (c : Chan) (v : Nat) (tag : Option Consumer) :
    (takeTotal c v tag s).after.rack = s.rack := by
  unfold takeTotal
  split
  · rfl
  · exact finishReading_rack ..

@[simp] theorem takeDelta_rack (c : Chan) (d : Nat) (base : Option Nat) (tag : Option Consumer) :
    (takeDelta c d base tag s).after.rack = s.rack := by
  unfold takeDelta
  dsimp only
  split <;> exact finishReading_rack ..

@[simp] theorem samplePulse_rack (c : Chan) : (samplePulse c s).rack = s.rack := by
  unfold samplePulse
  dsimp only
  split
  · exact takeDelta_rack ..
  · rfl

@[simp] theorem abandonPoll_rack (c : Chan) : (abandonPoll c s).rack = s.rack := by
  unfold abandonPoll
  dsimp only
  split
  · split <;> rfl
  · rfl

@[simp] theorem renewPolling_rack (c : Chan) : (renewPolling c s).rack = s.rack := by
  rw [renewPolling_eq]
  rfl

@[simp] theorem activate_rack (c : Chan) : (activate c s).rack = s.rack := by
  unfold activate
  dsimp only
  split <;> simp

@[simp] theorem deactivate_rack (c : Chan) : (deactivate c s).rack = s.rack := by simp [deactivate]

@[simp] theorem adoptChannel_rack (c : Chan) (old new : ChannelConfig) : (adoptChannel c old new s).rack = s.rack := by
  unfold adoptChannel
  split
  · rfl
  · exact activate_rack ..
  · exact deactivate_rack ..
  · split
    · simp
    · split
      · exact enterStale_rack ..
      · rfl

/-! ## Slots (chapter 2) -/

@[simp] theorem leaveReady_rack (sl : Slot) : (leaveReady sl s).rack = s.rack :=
  forEach_rack (s.setSlot sl _) _ fun c t => (congrArg State.rack (channelSlotLost_frame c t) :)

@[simp] theorem enterReady_rack (sl : Slot) (m : ModuleType) : (enterReady sl m s).rack = s.rack :=
  (congrArg State.rack (enterReady_metered sl m s).frame :)

@[simp] theorem enterRejected_rack (sl : Slot) (why : RejectReason) : (enterRejected sl why s).rack = s.rack :=
  raise_rack ..

@[simp] theorem failPoll_rack (c : Chan) : (failPoll c s).rack = s.rack := by
  unfold failPoll
  dsimp only
  split
  · exact enterStale_rack ..
  · rfl

@[simp] theorem restampChannels_rack (t : Nat) : (restampChannels t s).rack = s.rack := by
  dsimp only [State.rack, restampChannels]

/-! ## Pools, furnaces and lines (chapters 3 to 5) -/

@[simp] theorem settleClosingPool_rack (snap : Snapshot) (c : Chan) : (settleClosingPool snap c s).rack = s.rack :=
  (congrArg State.rack (settleClosingPool_frame snap c s) :)

@[simp] theorem takeCharge_rack (f : Furnace) (serial batch cullet : Nat) :
    (takeCharge f serial batch cullet s).rack = s.rack := by
  rw [takeCharge_eq]
  split
  · exact raise_rack ..
  · rfl

@[simp] theorem bookTally_rack (l : Line) (m : TallyMasses) : (bookTally l m s).rack = s.rack := by
  have drawn : (tallyDrawn l m s).rack = s.rack := (congrArg State.rack (tallyDrawn_frame l m s) :)
  rw [bookTally_eq]
  split
  · exact (raise_rack ..).trans drawn
  · exact drawn

/-! ## Locks and adoption (chapter 9) -/

@[simp] theorem endHold_rack (r : RegionNo) (p : Port) : (endHold r p s).rack = s.rack :=
  (congrArg State.rack (endHold_frame r p s) :)
@[simp] theorem dropLocks_rack (p : Port) : (dropLocks p s).rack = s.rack :=
  (congrArg State.rack (dropLocks_frame p s) :)
@[simp] theorem expireIfSilent_rack (r : RegionNo) : (expireIfSilent r s).rack = s.rack :=
  (congrArg State.rack (expireIfSilent_frame r s) :)
@[simp] theorem expireSilent_rack : (expireSilent s).rack = s.rack :=
  forEach_rack s _ fun r t => expireIfSilent_rack t r

@[simp] theorem adoptFurnace_rack (f : Furnace) (old new : FurnaceConfig) :
    (adoptFurnace f old new s).rack = s.rack := by
  unfold adoptFurnace
  split <;> rfl

@[simp] theorem adoptLine_rack (l : Line) (old new : LineConfig) : (adoptLine l old new s).rack = s.rack := by
  unfold adoptLine
  split <;> rfl

/-- A new interval length waits for the next close, or takes back one that waits. -/
theorem adoptLength_rack (old new : Nat) : (s.setInterval (adoptLength old new s.interval)).rack = s.rack := by
  unfold adoptLength
  split <;> rfl

theorem reorderWaitLists_rack : (reorderWaitLists s).rack = s.rack := by
  dsimp only [State.rack, reorderWaitLists]

theorem adoptEffects_rack (r : RegionNo) (old new : RegionValue) : (adoptEffects r old new s).rack = s.rack := by
  unfold adoptEffects
  split
  · exact adoptChannel_rack ..
  · exact adoptFurnace_rack ..
  · exact adoptLine_rack ..
  · dsimp only
    split
    · exact adoptLength_rack s _ _
    · rw [reorderWaitLists_rack, adoptLength_rack]
  · rfl

theorem settleBeforeAdoption_rack (r : RegionNo) (old new : RegionValue) :
    (settleBeforeAdoption r old new s).rack = s.rack := by
  unfold settleBeforeAdoption
  split
  · split <;> rfl
  · rfl

@[simp] theorem adopt_rack (r : RegionNo) (v : RegionValue) : (adopt r v s).rack = s.rack :=
  (adoptEffects_rack ..).trans (settleBeforeAdoption_rack ..)

@[simp] theorem adoptWhole_rack (g : Configuration) : (adoptWhole g s).rack = s.rack := by
  unfold adoptWhole
  refine forEach_rack _ _ fun c t => ?_
  split
  · exact activate_rack ..
  · rfl

@[simp] theorem loadedState_rack (answered : Bool) : (loadedState answered s).rack = s.rack := by
  unfold loadedState
  split
  · exact adoptWhole_rack ..
  · exact raise_rack ..

end

/-! ## Requests that leave the rack -/

section
variable (s : State)

theorem reqMeterPost_rack (channel value : Nat) (tag : Option Nat) :
    (reqMeterPost channel value tag s).after.rack = s.rack := by
  unfold reqMeterPost
  split
  · dsimp only
    iterate 5 split; rfl
    dsimp only [accept_after]
    split
    · exact takeTotal_rack ..
    · exact takeDelta_rack ..
  · rfl

theorem reqChannelRebase_rack (channel : Nat) : (reqChannelRebase channel s).after.rack = s.rack := by
  unfold reqChannelRebase
  split
  · dsimp only
    split
    · rfl
    · split
      · exact sendChannel_rack ..
      · rfl
  · rfl

theorem reqSetSwitch_rack (p : Port) (carrier set : Nat) : (reqSetSwitch p carrier set s).after.rack = s.rack := by
  unfold reqSetSwitch
  split
  · rfl
  · split
    · rfl
    · dsimp only
      split
      · rfl
      · split
        · rfl
        · exact setConfig_rack ..

theorem reqChargePost_rack (furnace serial batch cullet : Nat) :
    (reqChargePost furnace serial batch cullet s).after.rack = s.rack := by
  unfold reqChargePost
  split
  · dsimp only
    iterate 5 split; rfl
    exact takeCharge_rack ..
  · rfl

theorem furnaceRequest_rack (furnace : Nat) (source target : FurnaceState) (bad : Option LineState → Bool)
    {effect : Furnace → State → State} (h : ∀ f, (effect f s).rack = s.rack) :
    (furnaceRequest furnace source target bad effect s).after.rack = s.rack :=
  furnaceRequest_after (P := fun t => t.rack = s.rack) furnace source target bad effect rfl h

theorem lineRequest_rack (line : Nat) (fields : Bool) (taken : LineState → Bool)
    {op : Line → LineRecord → LineState → Taken} (h : ∀ l r st, (op l r st).after.rack = s.rack) :
    (lineRequest line fields taken s op).after.rack = s.rack :=
  lineRequest_after (P := fun t => t.rack = s.rack) line fields taken op rfl h

theorem reqJobStart_rack (line id gobMass gobsPerCut articleMass : Nat) :
    (reqJobStart line id gobMass gobsPerCut articleMass s).after.rack = s.rack := by
  refine lineRequest_rack s line _ _ fun l r st => ?_
  dsimp only
  split
  · rfl
  · split <;> rfl

theorem tallyCurrent_rack (l : Line) (r : LineRecord) (st : LineState) (j : Job) (cuts packed : Nat) :
    (tallyCurrent l r st j cuts packed s).after.rack = s.rack := by
  unfold tallyCurrent
  dsimp only
  split <;> simp

theorem reqTallyPost_rack (line id cuts packed : Nat) : (reqTallyPost line id cuts packed s).after.rack = s.rack := by
  refine lineRequest_rack s line _ _ fun l r st => ?_
  split
  · rfl
  · split
    · exact tallyCurrent_rack ..
    · exact bookTally_rack ..
    · rfl

theorem reqLineResume_rack (line : Nat) : (reqLineResume line s).after.rack = s.rack := by
  refine lineRequest_rack s line _ _ fun l r _ => ?_
  dsimp only
  generalize (if s.config.furnaces[s.config.lines[l].feeding].enabled = true then
    s.furnaces[s.config.lines[l].feeding].state else none) = feeding
  split
  · rfl
  · split <;> rfl

theorem reqCampaignReset_rack (consumer : Nat) : (reqCampaignReset consumer s).after.rack = s.rack := by
  unfold reqCampaignReset
  split <;> rfl

theorem reqProveStart_rack (p : Port) (channel duration : Nat) :
    (reqProveStart p channel duration s).after.rack = s.rack := by
  unfold reqProveStart
  split
  · split
    · split
      · rfl
      · dsimp only
        split <;> rfl
    · rfl
  · rfl

theorem reqProveStop_rack : (reqProveStop s).after.rack = s.rack := by
  unfold reqProveStop
  split
  · rfl
  · exact endRun_rack ..

theorem reqProveApply_rack (p : Port) (channel : Nat) : (reqProveApply p channel s).after.rack = s.rack := by
  unfold reqProveApply
  split
  · dsimp only
    split
    · rfl
    · split
      · split
        · rfl
        · split <;> rfl
      · split <;> rfl
  · rfl

theorem reqLock_rack (p : Port) (region mode : Nat) : (reqLock p region mode s).after.rack = s.rack := by
  unfold reqLock
  split
  · split
    · rfl
    · dsimp only
      split
      · rfl
      · rfl
      · split
        · rfl
        · split <;> rfl
  · rfl

theorem reqLockCancel_rack (p : Port) : (reqLockCancel p s).after.rack = s.rack := by
  unfold reqLockCancel
  split <;> rfl

theorem reqStageWrite_rack (p : Port) (region field : Nat) (value : StageValue) :
    (reqStageWrite p region field value s).after.rack = s.rack := by
  unfold reqStageWrite
  split
  · dsimp only
    split
    · rfl
    · split
      · rfl
      · split
        · rfl
        · split <;> rfl
  · rfl

theorem reqConfigRead_rack (p : Port) (region which : Nat) : (reqConfigRead p region which s).after.rack = s.rack := by
  unfold reqConfigRead
  split
  · split
    · rfl
    · dsimp only
      split
      · rfl
      · split <;> rfl
  · rfl

theorem applyTimeout_rack (old : Nat) : (applyTimeout old s).rack = s.rack := by
  unfold applyTimeout
  split
  · rfl
  · exact expireSilent_rack s

theorem reqRelease_rack (p : Port) (action : Nat) : (reqRelease p action s).after.rack = s.rack := by
  unfold reqRelease
  split
  · rfl
  · split
    · rfl
    · split
      · exact endHold_rack ..
      · split
        · exact endHold_rack ..
        · split
          · exact endHold_rack ..
          · rw [accept_after, applyTimeout_rack, endHold_rack, adopt_rack]

theorem reqAlertRead_rack (p : Port) : (reqAlertRead p s).after.rack = s.rack := by
  unfold reqAlertRead
  dsimp only
  split
  · rfl
  · dsimp only [accept_after]
    split <;> rfl

theorem reqAlertClear_rack (p : Port) (n : Nat) : (reqAlertClear p n s).after.rack = s.rack := by
  unfold reqAlertClear
  split <;> rfl

theorem reqAlertMask_rack (p : Port) (m : Nat) : (reqAlertMask p m s).after.rack = s.rack := by
  unfold reqAlertMask
  split <;> rfl

theorem reqSave_rack : (reqSave s).after.rack = s.rack := by
  unfold reqSave
  split <;> rfl

end

/-- The requests that move the ring, a cursor or the open interval's number. -/
def movesRack : Request → Bool
  | .timeSet _ | .intervalRead | .cursorSet _ | .clearCounts => true
  | _ => false

/-- Every request but the four of `movesRack` leaves the rack. -/
theorem requestOp_rack {r : Request} (hm : movesRack r = false) (p : Port) (s : State) :
    (requestOp p r s).after.rack = s.rack := by
  cases r with
  | timeSet | intervalRead | cursorSet | clearCounts => exact absurd hm nofun
  | status => rfl
  | meterPost c v t => exact reqMeterPost_rack s c v t
  | channelRead c => exact congrArg State.rack (reqChannelRead_after c s)
  | channelRebase c => exact reqChannelRebase_rack s c
  | setSwitch n x => exact reqSetSwitch_rack s p n x
  | slotRead n => exact congrArg State.rack (reqSlotRead_after n s)
  | liveRead n => exact congrArg State.rack (reqLiveRead_after n s)
  | chargePost f n b x => exact reqChargePost_rack s f n b x
  | furnaceHold f => exact furnaceRequest_rack s f _ _ _ fun _ => rfl
  | furnaceResume f => exact furnaceRequest_rack s f _ _ _ fun _ => rfl
  | furnaceShutdown f => exact furnaceRequest_rack s f _ _ _ fun _ => rfl
  | furnaceWarm f => exact furnaceRequest_rack s f _ _ _ fun _ => rfl
  | queueRead f n => exact congrArg State.rack (reqQueueRead_after f n s)
  | jobStart l j g n a => exact reqJobStart_rack s l j g n a
  | jobReady l => exact lineRequest_rack s l _ _ fun _ _ _ => rfl
  | tallyPost l j c x => exact reqTallyPost_rack s l j c x
  | lineHold l => exact lineRequest_rack s l _ _ fun _ _ _ => rfl
  | lineResume l => exact reqLineResume_rack s l
  | lineShutdown l => exact lineRequest_rack s l _ _ fun _ _ _ => rfl
  | lineWarm l => exact lineRequest_rack s l _ _ fun _ _ _ => rfl
  | stateRead l => exact congrArg State.rack (reqStateRead_after l s)
  | intervalReadAt n => exact congrArg State.rack (reqIntervalReadAt_after n s)
  | totalsRead n => exact congrArg State.rack (reqTotalsRead_after n s)
  | campaignReset n => exact reqCampaignReset_rack s n
  | proveStart c d => exact reqProveStart_rack s p c d
  | proveStop => exact reqProveStop_rack s
  | proveApply c => exact reqProveApply_rack s p c
  | lock r m => exact reqLock_rack s p r m
  | lockCancel => exact reqLockCancel_rack s p
  | stageWrite r n v => exact reqStageWrite_rack s p r n v
  | configRead r w => exact reqConfigRead_rack s p r w
  | release a => exact reqRelease_rack s p a
  | alertRead => exact reqAlertRead_rack s p
  | alertClear a => exact reqAlertClear_rack s p a
  | alertMask a => exact reqAlertMask_rack s p a
  | save => exact reqSave_rack s

/-! ## Events that leave the rack -/

/-- The events that begin or end a close, or may: those of plant time and of the open interval, and a reset. -/
def closes : Instr → Bool
  | .hardwareReset | .plantTimeTick | .plantTimeWrap | .intervalExpiry | .closeEnd => true
  | _ => false

section
variable {s t : State}

theorem exec_presenceChange_rack {sl : Slot} {a b : Bool} (he : exec (.presenceChange sl a b) s = .next t) :
    t.rack = s.rack := by
  obtain rfl := Host.Outcome.next.inj he
  dsimp only
  split
  · rfl
  · split
    · exact leaveReady_rack ..
    · rfl

theorem exec_settleTimerExpiry_rack {sl : Slot} (he : exec (.settleTimerExpiry sl) s = .next t) : t.rack = s.rack := by
  obtain rfl := Host.Outcome.next.inj he
  dsimp only
  split
  · split
    · exact enterReady_rack ..
    · exact enterReady_rack ..
    · exact enterReady_rack ..
    · exact enterRejected_rack ..
    · rfl
    · split
      · exact enterRejected_rack ..
      · rfl
  · rfl

theorem exec_partialTimerExpiry_rack {sl : Slot} (he : exec (.partialTimerExpiry sl) s = .next t) :
    t.rack = s.rack := by
  obtain rfl := Host.Outcome.next.inj he
  dsimp only
  split
  · split
    · exact enterRejected_rack ..
    · rfl
  · rfl

theorem exec_pulseSample_rack (he : exec .pulseSample s = .next t) : t.rack = s.rack := by
  obtain rfl := Host.Outcome.next.inj he
  refine forEach_rack { s.reach s.sampleDue with sampleDue := s.sampleDue + 1000 } _ fun c u => ?_
  split
  · exact samplePulse_rack u c
  · rfl

theorem exec_pollReply_rack {poll : PollRef} {ok : Bool} {address value : Nat}
    (he : exec (.pollReply poll ok address value) s = .next t) : t.rack = s.rack := by
  obtain rfl := Host.Outcome.next.inj he
  dsimp only
  split
  · rfl
  · split
    · split
      · exact takeTotal_rack ..
      · exact failPoll_rack ..
    · rfl

theorem exec_replyLimitExpiry_rack {sl : Slot} (he : exec (.replyLimitExpiry sl) s = .next t) : t.rack = s.rack := by
  obtain rfl := Host.Outcome.next.inj he
  split
  · rfl
  · split
    · exact failPoll_rack ..
    · rfl

theorem exec_proveExpiry_rack (he : exec .proveExpiry s = .next t) : t.rack = s.rack := by
  obtain rfl := Host.Outcome.next.inj he
  split
  · rfl
  · dsimp only
    split
    · exact endRun_rack ..
    · rfl

theorem exec_holdTimerExpiry_rack {l : Line} (he : exec (.holdTimerExpiry l) s = .next t) : t.rack = s.rack := by
  obtain rfl := Host.Outcome.next.inj he
  dsimp only
  split
  · rw [raise_rack, raise_rack, setLine_rack]
  · rfl

theorem exec_saveAccessTimeout_rack (he : exec .saveAccessTimeout s = .next t) : t.rack = s.rack := by
  obtain rfl := Host.Outcome.next.inj he
  split
  · rfl
  · split
    · exact raise_rack ..
    · rfl

/-- Every event but those of `closes` leaves the rack. -/
theorem exec_rack {i : Instr} (he : exec i s = .next t) (hc : closes i = false) (hr : i.asRequest = none)
    (hl : onLink i = false) : t.rack = s.rack := by
  cases i
  case configLoadDone answered =>
    obtain rfl := Host.Outcome.next.inj he
    split
    · exact loadedState_rack s answered
    · rfl
  case closingPoolSettle c =>
    obtain rfl := Host.Outcome.next.inj he
    split
    · rfl
    · exact settleClosingPool_rack ..
  case presenceChange => exact exec_presenceChange_rack he
  case codeLineChange =>
    obtain rfl := Host.Outcome.next.inj he
    dsimp only
    split <;> rfl
  case settleTimerExpiry => exact exec_settleTimerExpiry_rack he
  case partialTimerExpiry => exact exec_partialTimerExpiry_rack he
  case pulseInput =>
    obtain rfl := Host.Outcome.next.inj he
    dsimp only
    split <;> rfl
  case pulseSample => exact exec_pulseSample_rack he
  case pollStart =>
    obtain rfl := Host.Outcome.next.inj he
    split <;> rfl
  case pollReply => exact exec_pollReply_rack he
  case replyLimitExpiry => exact exec_replyLimitExpiry_rack he
  case staleTimeExpiry =>
    obtain rfl := Host.Outcome.next.inj he
    split
    · exact enterStale_rack ..
    · rfl
  case referencePulse =>
    obtain rfl := Host.Outcome.next.inj he
    split <;> rfl
  case proveExpiry => exact exec_proveExpiry_rack he
  case holdTimerExpiry => exact exec_holdTimerExpiry_rack he
  case lockExpiry r =>
    obtain rfl := Host.Outcome.next.inj he
    exact expireIfSilent_rack s r
  case saveWriteAcknowledged =>
    obtain rfl := Host.Outcome.next.inj he
    split
    · rfl
    · dsimp only
      split <;> rfl
  case saveAccessTimeout => exact exec_saveAccessTimeout_rack he
  all_goals revert hc hr hl; exact nofun

end

end Sys2Proof.Machine
end

section
/-! PROOF. O53: reads, writes and clears of the ring, and the starts and ends of closes, keep its order and the
cursors. -/

namespace Sys2Proof.Machine

/-! ## Consecutive records (R134) -/

/-- Each record's number follows the one before it, as a chain. -/
theorem consecutive_iff (l : List IntervalResult) :
    consecutive l = true ↔ l.IsChain fun a b => b.number = a.number + 1 := by
  induction l with
  | nil => simp [consecutive]
  | cons a l ih =>
    cases l with
    | nil => simp [consecutive]
    | cons b l => rw [consecutive, Bool.and_eq_true, beq_iff_eq, ih, List.isChain_cons_cons]

/-- A record of consecutive ones is the newest, or the next number is held too. -/
theorem next_held_of_consecutive {l : List IntervalResult} (h : consecutive l = true) {r : IntervalResult}
    (hr : r ∈ l) : l.getLast? = some r ∨ ∃ x ∈ l, x.number = r.number + 1 := by
  induction l with
  | nil => exact absurd hr List.not_mem_nil
  | cons a l ih =>
    cases l with
    | nil => exact .inl (List.mem_singleton.mp hr ▸ rfl)
    | cons b l =>
      obtain ⟨hab, hl⟩ := Bool.and_eq_true_iff.mp h
      rcases List.mem_cons.mp hr with rfl | hr
      · exact .inr ⟨b, List.mem_cons_of_mem _ (List.mem_cons_self ..), beq_iff_eq.mp hab⟩
      · rcases ih hl hr with hlast | ⟨x, hx, hn⟩
        · exact .inl (by rw [List.getLast?_cons_cons, hlast])
        · exact .inr ⟨x, List.mem_cons_of_mem _ hx, hn⟩

/-- A record with the number after the newest one's leaves the ring consecutive (R134, R135). -/
theorem pushRecord_consecutive {l : List IntervalResult} (h : consecutive l = true) {r : IntervalResult}
    (hr : ∀ x, l.getLast? = some x → r.number = x.number + 1) : consecutive (pushRecord r l) = true := by
  rw [consecutive_iff] at h ⊢
  refine List.isChain_append.mpr ⟨h.drop _, List.isChain_singleton _, fun x hx y hy => ?_⟩
  obtain rfl := Option.some.inj hy
  rw [List.getLast?_drop] at hx
  split at hx
  · exact absurd hx nofun
  · exact hr x hx

theorem pushRecord_length (r : IntervalResult) {l : List IntervalResult} (h : l.length ≤ ringLimit) :
    (pushRecord r l).length ≤ ringLimit := by
  rw [pushRecord, List.length_append, List.length_drop, List.length_singleton]
  unfold ringLimit at h ⊢
  omega

theorem pushRecord_getLast? (r : IntervalResult) (l : List IntervalResult) : (pushRecord r l).getLast? = some r :=
  List.getLast?_concat ..

/-! ## What a number designates (R136) -/

theorem designates_iff (s : State) (n : Nat) :
    designates s n = true ↔ (∃ r ∈ s.ring, r.number = n) ∨ n = writeNumber s := by
  rw [designates, Bool.or_eq_true, List.any_eq_true, beq_iff_eq]
  simp only [beq_iff_eq]

theorem designates_of_mem {s : State} {r : IntervalResult} (h : r ∈ s.ring) : designates s r.number = true :=
  (designates_iff s _).mpr (.inl ⟨r, h, rfl⟩)

theorem designates_writeNumber (s : State) : designates s (writeNumber s) = true :=
  (designates_iff s _).mpr (.inr rfl)

/-- The three places of CURSOR_SET designate a held record or the write position (R138). -/
theorem designates_cursorPlace (place : Nat) (s : State) : designates s (cursorPlace place s) = true := by
  have edge {o : Option IntervalResult} (h : ∀ r, o = some r → r ∈ s.ring) :
      designates s ((o.map IntervalResult.number).getD (writeNumber s)) = true := by
    cases o with
    | none => exact designates_writeNumber s
    | some r => exact designates_of_mem (h r rfl)
  unfold cursorPlace
  split
  · exact edge fun r => List.mem_of_head?
  · exact edge fun r => List.mem_of_getLast?
  · exact designates_writeNumber s

theorem writeNumber_idle {s : State} (h : s.interval.closing = none) : writeNumber s = s.interval.number := by
  rw [writeNumber, h]

theorem writeNumber_closing {s : State} {k : Closing} (h : s.interval.closing = some k) : writeNumber s = k.number := by
  rw [writeNumber, h]

theorem heldRecord_some {s : State} {n : Nat} {r : IntervalResult} (h : heldRecord s n = some r) :
    r ∈ s.ring ∧ r.number = n :=
  ⟨List.mem_of_find?_eq_some h, beq_iff_eq.mp (List.find?_some (p := fun x : IntervalResult => x.number == n) h)⟩

/-- A close begins with the number of the open interval, and the next interval has the number after it (R114). -/
theorem beginClose_rack (e start : Nat) (short : Bool) (s : State) :
    ∃ k : Closing, k.number = s.interval.number ∧
      (beginClose e start short s).rack = { s.rack with closing := some k, number := s.interval.number + 1 } :=
  ⟨_, rfl, by dsimp only [State.rack, beginClose]⟩

/-! ## What keeps the ring -/

namespace RingOrdered
variable {s t : State}

/-- A change that leaves records, cursors and write number as they are, and the numbering of a close in flight in
order. -/
theorem of_same (h : RingOrdered s) (ring : t.ring = s.ring) (cursors : t.cursors = s.cursors)
    (write : writeNumber t = writeNumber s)
    (numbering : ∀ k, t.interval.closing = some k → t.interval.number = k.number + 1) : RingOrdered t := by
  obtain ⟨order, size, newest, -, placed⟩ := h
  refine ⟨ring ▸ order, ring ▸ size, ?_, numbering, fun p => ?_⟩
  · rw [ring, write]
    exact newest
  · rw [designates, ring, cursors, write]
    exact placed p

theorem of_rack (h : RingOrdered s) (he : t.rack = s.rack) : RingOrdered t := by
  simp only [State.rack, Rack.mk.injEq] at he
  obtain ⟨ring, cursors, closing, number⟩ := he
  refine h.of_same ring cursors (by rw [writeNumber, writeNumber, closing, number]) ?_
  obtain ⟨-, -, -, numbering, -⟩ := h
  rw [closing, number]
  exact numbering

theorem setCursor (h : RingOrdered s) (p : Port) {k : Cursor} (hk : designates s k.number = true) :
    RingOrdered (s.setCursor p k) := by
  obtain ⟨order, size, newest, numbering, placed⟩ := h
  refine ⟨order, size, newest, numbering, fun q => ?_⟩
  rw [State.setCursor_cursors, get_set]
  split
  · exact hk
  · exact placed q

/-- The number after a held record's is held too, or it is the write number. -/
theorem designates_next (h : RingOrdered s) {r : IntervalResult} (hr : r ∈ s.ring) :
    designates s (r.number + 1) = true := by
  obtain ⟨order, -, newest, -, -⟩ := h
  rcases next_held_of_consecutive order hr with hlast | hx
  · exact newest r hlast ▸ designates_writeNumber s
  · exact (designates_iff s _).mpr (.inl hx)

/-! ## Reading and clearing (R137, R138, R145) -/

theorem reqIntervalRead (h : RingOrdered s) (p : Port) : RingOrdered (reqIntervalRead p s).after := by
  unfold Machine.reqIntervalRead
  dsimp only
  split
  · next r hr =>
    obtain ⟨held, number⟩ := heldRecord_some hr
    exact h.setCursor p (number ▸ h.designates_next held)
  · exact h

theorem reqCursorSet (h : RingOrdered s) (p : Port) (place : Nat) : RingOrdered (reqCursorSet p place s).after := by
  unfold Machine.reqCursorSet
  split
  · exact h
  · exact h.setCursor p (designates_cursorPlace place s)

/-- An empty ring is in order with no close in flight, if every cursor is at the open interval number. -/
theorem of_empty (ring : s.ring = []) (closing : s.interval.closing = none)
    (cursors : ∀ p : Port, s.cursors[p].number = s.interval.number) : RingOrdered s := by
  refine ⟨ring ▸ rfl, ring ▸ Nat.zero_le _, ring ▸ nofun, closing ▸ nofun, fun p => ?_⟩
  rw [cursors, ← writeNumber_idle closing]
  exact designates_writeNumber s

/-- CLEAR_COUNTS is taken only with no close in flight. -/
theorem reqClearCounts (h : RingOrdered s) : RingOrdered (reqClearCounts s).after := by
  unfold Machine.reqClearCounts
  split
  · exact h
  · next hc =>
    exact of_empty rfl (Option.not_isSome_iff_eq_none.mp hc) fun p => congrArg Cursor.number (get_replicate _ p)

/-! ## The start of a close (R114, R116, R121, R122) -/

/-- A close that begins takes over the write number from the open interval. -/
theorem beginClose (h : RingOrdered s) (hc : s.interval.closing = none) (e start : Nat) (short : Bool) :
    RingOrdered (beginClose e start short s) := by
  obtain ⟨k, number, rack⟩ := beginClose_rack e start short s
  simp only [State.rack, Rack.mk.injEq] at rack
  obtain ⟨ring, cursors, closing, next⟩ := rack
  refine h.of_same ring cursors ?_ fun k' hk => ?_
  · rw [writeNumber_closing closing, writeNumber_idle hc, number]
  · obtain rfl := Option.some.inj (closing.symm.trans hk)
    rw [next, number]

theorem beginWaiting (h : RingOrdered s) (hc : s.interval.closing = none) (w : Waiting) :
    RingOrdered (beginWaiting w s) := by
  cases w with
  | none => exact h
  | expiry => exact h.beginClose hc _ _ _
  | wrap => exact h.beginClose hc _ _ _

theorem reqTimeSet (h : RingOrdered s) (time : Nat) : RingOrdered (reqTimeSet time s).after := by
  unfold Machine.reqTimeSet
  split
  · exact h
  · split
    · exact h
    · next hc =>
      have begun := h.beginClose (Option.not_isSome_iff_eq_none.mp hc) s.interval.plantTime time true
      exact begun.of_rack ((restampChannels_rack ..).trans (setInterval_rack _ rfl rfl))

theorem wrapPlantTime (h : RingOrdered s) : RingOrdered (wrapPlantTime s) := by
  unfold Machine.wrapPlantTime
  dsimp only
  refine of_rack ?_ ((restampChannels_rack ..).trans (setInterval_rack _ rfl rfl))
  split
  · exact h.of_rack (setInterval_rack _ rfl rfl)
  · next hc => exact h.beginClose (Option.not_isSome_iff_eq_none.mp hc) _ _ _

theorem plantTimeTick (h : RingOrdered s) (he : exec .plantTimeTick s = .next t) : RingOrdered t := by
  obtain rfl := Host.Outcome.next.inj he
  have passed : RingOrdered (passSecond s) := h.of_rack rfl
  split
  · dsimp only
    split
    · exact passed.of_rack rfl
    · exact passed.wrapPlantTime
  · exact h

theorem plantTimeWrap (h : RingOrdered s) (he : exec .plantTimeWrap s = .next t) : RingOrdered t := by
  obtain rfl := Host.Outcome.next.inj he
  have passed : RingOrdered (passSecond s) := h.of_rack rfl
  split
  · exact passed.wrapPlantTime
  · exact h

theorem intervalExpiry (h : RingOrdered s) (he : exec .intervalExpiry s = .next t) : RingOrdered t := by
  obtain rfl := Host.Outcome.next.inj he
  split
  · split
    · exact h.of_rack rfl
    · next hc => exact h.beginClose (Option.not_isSome_iff_eq_none.mp hc) _ _ _
  · exact h

/-! ## The end of a close (R120, R135) -/

/-- A cursor at the write position finds the record written there, one at a removed record moves to the oldest that is
held, and any other one stays at its record. -/
theorem movedCursor_held {ring removed kept : List IntervalResult} (hring : ring = removed ++ kept)
    {r : IntervalResult} {k : Cursor} (hk : (∃ x ∈ ring, x.number = k.number) ∨ k.number = r.number) :
    ∃ x ∈ kept ++ [r], x.number = (moveCursor removed (kept ++ [r]) k).number := by
  by_cases hr : ∃ x ∈ removed, x.number = k.number
  · obtain ⟨first, rest, hf⟩ :=
      List.exists_cons_of_ne_nil (List.append_ne_nil_of_right_ne_nil kept (List.cons_ne_nil r []))
    rw [hf, moveCursor_moved hr]
    exact ⟨first, List.mem_cons_self .., rfl⟩
  · rw [moveCursor_kept fun x hx he => hr ⟨x, hx, he⟩]
    rcases hk with ⟨x, hx, he⟩ | he
    · rcases List.mem_append.mp (hring ▸ hx) with hx | hx
      · exact absurd ⟨x, hx, he⟩ hr
      · exact ⟨x, List.mem_append_left _ hx, he⟩
    · exact ⟨r, List.mem_append_right _ (List.mem_singleton_self r), he.symm⟩

/-- A close that has ended wrote its record at the write position. -/
theorem closeEnded (h : RingOrdered s) {k : Closing} (hk : s.interval.closing = some k) :
    RingOrdered (closeEnded k s) := by
  obtain ⟨order, size, newest, numbering, placed⟩ := h
  have write : writeNumber s = (recordOf k s).number := writeNumber_closing hk
  have after : writeNumber (Machine.closeEnded k s) = (recordOf k s).number + 1 := numbering k hk
  have ring := closeEnded_ring k s
  refine ⟨?_, ?_, fun r hr => ?_, nofun, fun p => (designates_iff _ _).mpr (.inl ?_)⟩
  · rw [ring]
    exact pushRecord_consecutive order fun x hx => write ▸ newest x hx
  · rw [ring]
    exact pushRecord_length _ size
  · rw [ring, pushRecord_getLast?] at hr
    exact Option.some.inj hr ▸ after
  · rw [closeEnded_cursor, ring, pushRecord_eq]
    refine movedCursor_held (List.take_append_drop ..).symm ?_
    rw [← write]
    exact (designates_iff s _).mp (placed p)

theorem closeEnd (h : RingOrdered s) (he : exec .closeEnd s = .next t) : RingOrdered t := by
  cases hk : s.interval.closing with
  | none => exact Host.Outcome.next.inj ((exec_closeEnd_idle s hk).symm.trans he) ▸ h
  | some k =>
    obtain rfl := Host.Outcome.next.inj ((exec_closeEnd k s hk).symm.trans he)
    exact (h.closeEnded hk).beginWaiting rfl _

/-! ## Every step -/

theorem request (h : RingOrdered s) (p : Port) (r : Request) : RingOrdered (requestOp p r s).after := by
  cases hm : movesRack r with
  | false => exact h.of_rack (requestOp_rack hm p s)
  | true =>
    cases r with
    | timeSet n => exact h.reqTimeSet n
    | intervalRead => exact h.reqIntervalRead p
    | cursorSet n => exact h.reqCursorSet p n
    | clearCounts => exact h.reqClearCounts
    | _ => exact absurd hm Bool.false_ne_true

theorem link : LinkKeeps RingOrdered where
  port _ _ _ _ h := h.of_rack rfl
  request p r _ h := h.request p r
  drop p s h := h.of_rack (dropLocks_rack s p)

theorem resetOf (s : State) : RingOrdered (resetOf s) :=
  of_empty rfl rfl fun p => congrArg Cursor.number (get_replicate _ p)

/-- Every event keeps the ring. -/
theorem event {i : Instr} (h : RingOrdered s) (he : exec i s = .next t) (hr : i.asRequest = none)
    (hl : onLink i = false) : RingOrdered t := by
  cases hc : closes i with
  | false => exact h.of_rack (exec_rack he hc hr hl)
  | true =>
    cases i
    case hardwareReset =>
      obtain rfl := Host.Outcome.next.inj ((exec_hardwareReset s).symm.trans he)
      exact resetOf s
    case plantTimeTick => exact h.plantTimeTick he
    case plantTimeWrap => exact h.plantTimeWrap he
    case intervalExpiry => exact h.intervalExpiry he
    case closeEnd => exact h.closeEnd he
    all_goals exact absurd hc Bool.false_ne_true

end RingOrdered

/-- Settles O53: a command moves the ring, the cursors and the write number together, or leaves the whole rack. -/
theorem stepKeepsTheRing : Obligations.StepKeepsTheRing := fun _ _ h ht =>
  step_keeps (P := RingOrdered) (fun _ _ h => h.of_rack rfl) (fun _ _ h => h.of_rack rfl)
    (fun _ _ _ h he => RingOrdered.link.exec (h.event he) h he) h ht

end Sys2Proof.Machine
end

section
/-! PROOF. O44: the reads of the ring, the cursor requests, and the layout of a record. -/

namespace Sys2Proof.Machine

/-! ## Reading (R137 to R139) -/

theorem heldRecord_none {s : State} {n : Nat} (h : ∀ r ∈ s.ring, r.number ≠ n) : heldRecord s n = none :=
  List.find?_eq_none.mpr fun r hr he => h r hr (beq_iff_eq.mp he)

/-- The payload with a record: the GAP mark, the count of newer records, and the record. -/
theorem recordPayload_eq (gap : Bool) (ring : List IntervalResult) (r : IntervalResult) :
    recordPayload gap ring r =
      octets 1 (if gap then 1 else 0) ++ (octets 1 (ring.countP fun x => r.number < x.number) ++ r.octets) :=
  List.append_assoc ..

section
variable {p : Port} {s : State}

theorem reqIntervalRead_held {r : IntervalResult} (h : heldRecord s s.cursors[p].number = some r) :
    reqIntervalRead p s =
      accept (s.setCursor p { number := s.cursors[p].number + 1, gap := false })
        (recordPayload s.cursors[p].gap s.ring r) := by
  rw [reqIntervalRead, h]

theorem reqIntervalRead_noRecord (h : heldRecord s s.cursors[p].number = none) :
    reqIntervalRead p s = refuse s .noRecord (octets 4 (writeNumber s) ++ yesNo s.interval.closing.isSome) := by
  rw [reqIntervalRead, h]

theorem reqIntervalReadAt_held {n : Nat} {r : IntervalResult} (h1 : 1 ≤ n) (h2 : n ≤ wordLimit)
    (h : heldRecord s n = some r) : reqIntervalReadAt n s = accept s (recordPayload false s.ring r) := by
  rw [reqIntervalReadAt, if_neg (by omega), h]

theorem reqIntervalReadAt_notHeld {n : Nat} (h1 : 1 ≤ n) (h2 : n ≤ wordLimit) (h : heldRecord s n = none) :
    reqIntervalReadAt n s =
      refuse s .notHeld (optional (fun r => octets 4 (IntervalResult.number r)) s.ring.head? ++
        optional (fun r => octets 4 (IntervalResult.number r)) s.ring.getLast? ++ octets 4 (writeNumber s)) := by
  rw [reqIntervalReadAt, if_neg (by omega), h]

theorem optional_map {α β : Type} (code : β → List Octet) (f : α → β) (o : Option α) :
    optional code (o.map f) = optional (fun a => code (f a)) o := by
  cases o <;> rfl

/-! ## CURSOR_SET (R138) -/

theorem reqCursorSet_range {place : Nat} (h : 2 < place) : reqCursorSet p place s = refuse s .range [] := if_pos h

theorem exec_cursorSet_place (tag : Octet) (hr : s.phase = .running) {place n : Nat} (hp : place ≤ 2)
    (hn : cursorPlace place s = n) :
    exec (.cursorSet p tag place) s =
      .next (replied p tag (.cursorSet place) .ok (octets 4 n ++ octets 1 (if n = writeNumber s then 0 else 1))
        (s.setCursor p { number := n, gap := false })) := by
  have op : reqCursorSet p place s =
      accept (s.setCursor p { number := n, gap := false }) (octets 4 n ++ yesNo (n == writeNumber s)) :=
    hn ▸ if_neg (Nat.not_lt.mpr hp)
  refine congrArg Host.Outcome.next ((serve_running p tag _ _ hr).trans ?_)
  rw [op, accept_status, accept_payload, accept_after, yesNo]
  simp only [beq_iff_eq]

end

/-! ## The layout of a record (R140) -/

theorem FurnaceEntry.octets_length (e : FurnaceEntry) : e.octets.length = 49 := rfl

theorem LineEntry.octets_length (e : LineEntry) : e.octets.length = 51 := rfl

theorem IntervalResult.octets_length (r : IntervalResult) :
    r.octets.length = 26 + 49 * r.furnaces.length + 51 * r.lines.length := by
  have furnaces : (r.furnaces.flatMap FurnaceEntry.octets).length = r.furnaces.length * 49 := by
    simp [List.length_flatMap, FurnaceEntry.octets_length]
  have lines : (r.lines.flatMap LineEntry.octets).length = r.lines.length * 51 := by
    simp [List.length_flatMap, LineEntry.octets_length]
  simp only [IntervalResult.octets, List.length_append, Machine.octets_length, furnaces, lines]
  omega

/-- Settles O44, request by request, and then the layout. -/
theorem ringReadsFollowTheCursor : Obligations.RingReadsFollowTheCursor := by
  refine ⟨fun p tag s hr => ⟨fun r hf => ?_, fun hf => ?_, fun n r h1 h2 hf => ?_, fun n h1 h2 hf => ?_, ?_,
    ⟨?_, fun he => ⟨?_, ?_⟩, fun r hh => ?_, fun r hl => ?_⟩, fun n hn => ?_⟩,
    fun e => ⟨e.octets_length, ?_⟩, fun e => ⟨e.octets_length, ?_⟩, fun r => ⟨r.octets_length, ?_⟩⟩
  · refine congrArg Host.Outcome.next ((serve_running p tag _ _ hr).trans ?_)
    rw [reqIntervalRead_held hf, accept_status, accept_payload, accept_after, recordPayload_eq]
  · refine congrArg Host.Outcome.next (serve_refuse hr ?_)
    rw [reqIntervalRead_noRecord (heldRecord_none hf), yesNo]
  · refine congrArg Host.Outcome.next (serve_report hr ?_)
    rw [reqIntervalReadAt_held h1 h2 hf, recordPayload_eq]
    rfl
  · refine congrArg Host.Outcome.next (serve_refuse hr ?_)
    rw [reqIntervalReadAt_notHeld h1 h2 (heldRecord_none hf), optional_map, optional_map]
  · exact congrArg Host.Outcome.next (serve_refuse hr (if_pos (.inl rfl)))
  · exact exec_cursorSet_place tag hr (by omega) rfl
  · exact exec_cursorSet_place tag hr (by omega) (by rw [cursorPlace, he]; rfl)
  · exact exec_cursorSet_place tag hr (by omega) (by rw [cursorPlace, he]; rfl)
  · exact exec_cursorSet_place tag hr (by omega) (by rw [cursorPlace, hh]; rfl)
  · exact exec_cursorSet_place tag hr (by omega) (by rw [cursorPlace, hl]; rfl)
  · exact congrArg Host.Outcome.next (serve_refuse hr (reqCursorSet_range hn))
  · simp only [FurnaceEntry.octets, Figure.octets, flagSet, List.append_assoc]
    generalize e.state = st
    cases st with
    | none => rfl
    | some st => cases st <;> rfl
  · simp only [LineEntry.octets, Figure.octets, flagSet, List.append_assoc]
    generalize e.state = st
    cases st with
    | none => rfl
    | some st => cases st <;> rfl
  · simp only [IntervalResult.octets, IntervalResult.flags, List.flatMap_def]

end Sys2Proof.Machine
end

section
/-! PROOF. O45: the requests of the campaign totals, and CLEAR_COUNTS. -/

namespace Sys2Proof.Machine

/-! ## TOTALS_READ and CAMPAIGN_RESET (R143, R144) -/

/-- The seven accumulators of a furnace's account in the order of TOTALS_READ. -/
theorem furnaceTotals_octets (a : FurnaceSums) :
    ([FurnaceKey.producing, .standby, .melted, .pulled, .cullet, .unbacked, .drained].flatMap fun k =>
      octets 8 (a.get k)) =
      octets 8 a.producing ++ octets 8 a.standby ++ octets 8 a.melted ++ octets 8 a.pulled ++ octets 8 a.cullet ++
        octets 8 a.unbacked ++ octets 8 a.drained := by
  simp only [List.flatMap_cons, List.flatMap_nil, List.append_nil, List.append_assoc]
  rfl

theorem reqTotalsRead_range {n : Nat} (h : 16 < n) (s : State) : reqTotalsRead n s = refuse s .range [] := by
  rw [reqTotalsRead, consumerOf_none h]

theorem reqCampaignReset_range {n : Nat} (h : 16 < n) (s : State) : reqCampaignReset n s = refuse s .range [] := by
  rw [reqCampaignReset, consumerOf_none h]

/-- CAMPAIGN_RESET of a consumer zeroes its account and changes nothing else. -/
theorem exec_campaignReset {p : Port} {tag : Octet} {s : State} (hr : s.phase = .running) {n : Nat} {c : Consumer}
    (hn : consumerOf n = some c) :
    exec (.campaignReset p tag n) s =
      .next (replied p tag (.campaignReset n) .ok (octets 4 (writeNumber s))
        (s.setTotals (resetAccount (sinceNow s) c s.totals))) := by
  have op : reqCampaignReset n s =
      accept (s.setTotals (resetAccount (sinceNow s) c s.totals)) (octets 4 (writeNumber s)) := by
    rw [reqCampaignReset, hn]
  refine congrArg Host.Outcome.next ((serve_running p tag _ _ hr).trans ?_)
  rw [op]
  rfl

/-! ## CLEAR_COUNTS (R145) -/

theorem reqClearCounts_busy {s : State} (h : s.interval.closing ≠ none) : reqClearCounts s = refuse s .busy [] :=
  if_pos (Option.isSome_iff_ne_none.mpr h)

theorem exec_clearCounts {p : Port} {tag : Octet} {s : State} (hr : s.phase = .running)
    (h : s.interval.closing = none) :
    exec (.clearCounts p tag) s =
      .next (replied p tag .clearCounts .ok (octets 4 s.interval.number) (clearCounts s)) := by
  have op : reqClearCounts s = accept (clearCounts s) (octets 4 s.interval.number) :=
    if_neg (by rw [h]; exact Bool.false_ne_true)
  refine congrArg Host.Outcome.next ((serve_running p tag _ _ hr).trans ?_)
  rw [op]
  rfl

section
variable (s : State)

theorem clearCounts_frame :
    { clearCounts s with
      openBank := s.openBank, pools := s.pools, channels := s.channels, totals := s.totals, ring := s.ring,
      cursors := s.cursors, interval := s.interval } = s := by
  dsimp only [clearCounts]

theorem clearCounts_pool (c : Chan) : (clearCounts s).pools[c] = { s.pools[c] with opened := 0 } := by
  rw [clearCounts, get_ofFn]

theorem clearCounts_channel (c : Chan) : (clearCounts s).channels[c] = { s.channels[c] with carry := 0 } := by
  rw [clearCounts, get_ofFn]

theorem clearCounts_cursor (p : Port) :
    (clearCounts s).cursors[p] = { number := s.interval.number, gap := false } := by
  rw [clearCounts, get_replicate]

end

/-- Settles O45, request by request. -/
theorem totalsAreReadResetAndCleared : Obligations.TotalsAreReadResetAndCleared := by
  refine fun p tag s hr => ⟨fun f => ⟨?_, exec_campaignReset hr (consumerOf_furnace f)⟩,
    fun l => ⟨?_, exec_campaignReset hr (consumerOf_line l)⟩, ?_, exec_campaignReset (c := .common) hr rfl,
    fun n hn => ⟨?_, ?_⟩, fun hc => ?_, fun hc => ⟨clearCounts s, exec_clearCounts hr hc, clearCounts_frame s, rfl, clearCounts_pool s,
      clearCounts_channel s, rfl, rfl, clearCounts_cursor s, rfl⟩⟩
  · refine congrArg Host.Outcome.next (serve_report hr ?_)
    rw [reqTotalsRead, consumerOf_furnace, furnaceTotals_octets]
    rfl
  · refine congrArg Host.Outcome.next (serve_report hr ?_)
    rw [reqTotalsRead, consumerOf_line]
    rfl
  · exact congrArg Host.Outcome.next (serve_report hr rfl)
  · exact congrArg Host.Outcome.next (serve_refuse hr (reqTotalsRead_range hn s))
  · exact congrArg Host.Outcome.next (serve_refuse hr (reqCampaignReset_range hn s))
  · exact congrArg Host.Outcome.next (serve_refuse hr (reqClearCounts_busy hc))

end Sys2Proof.Machine
end

section
/-! PROOF. O55: what the invariant of the prover looks at of each channel, and what the operations of channels and slots
make of it. -/

namespace Sys2Proof.Machine

/-! ## The bench of a channel -/

/-- What the invariant of the prover looks at of one channel: its state and mark, whether the run is on it, whether its
region says that it is active, the phase, and whether the poll in flight at its slot is of its position. -/
structure Bench where
  state   : ChannelState
  marked  : Bool
  claimed : Bool
  active  : Bool
  phase   : Phase
  polled  : Bool

/-- Whether the poll in flight at a channel's slot is of its position. -/
def polledOf (s : State) (c : Chan) : Bool := s.slots[slotOf c].poll.any fun q => q.position == positionOf c

/-- The bench of a channel. -/
def State.bench (s : State) (c : Chan) : Bench :=
  { state := s.channels[c].state, marked := s.channels[c].underProve, claimed := proverOn s c,
    active := s.config.channels[c].active, phase := s.phase, polled := polledOf s c }

/-- The invariant of the prover, of one channel. -/
structure Bench.Agrees (b : Bench) : Prop where
  mark     : b.marked = b.claimed
  live     : b.claimed = true → b.state = .live
  inactive : b.state = .inactive ↔ b.active = false
  starting : b.phase = .starting → b.active = false
  polled   : b.polled = true → b.state ≠ .inactive

theorem proverOn_iff (s : State) (c : Chan) :
    proverOn s c = true ↔ ∃ p t w, s.prover.state = .running c p t w := by
  unfold proverOn
  cases s.prover.state with
  | idle => simp
  | running c' p t w =>
    simp only [beq_iff_eq, ProverState.running.injEq]
    exact ⟨fun h => ⟨p, t, w, h, rfl, rfl, rfl⟩, fun ⟨_, _, _, h, _⟩ => h⟩

theorem polledOf_of_slot {s : State} {sl : Slot} {c : Chan} (h : sl = slotOf c) :
    polledOf s c = s.slots[sl].poll.any fun q => q.position == positionOf c := by
  subst h
  rfl

theorem polledOf_iff (s : State) (c : Chan) :
    polledOf s c = true ↔ ∃ (sl : Slot) (q : Poll), s.slots[sl].poll = some q ∧ chanAt sl q.position = c := by
  simp only [polledOf, Option.any_eq_true, beq_iff_eq]
  constructor
  · rintro ⟨q, hq, hp⟩
    exact ⟨slotOf c, q, hq, hp ▸ chanAt_of c⟩
  · rintro ⟨sl, q, hq, rfl⟩
    exact ⟨q, by simpa only [slotOf_chanAt] using hq, (positionOf_chanAt sl q.position).symm⟩

/-- The invariant of the prover is one of each channel by itself. -/
theorem proverAgrees_iff (s : State) : ProverAgrees s ↔ ∀ c, (s.bench c).Agrees := by
  constructor
  · rintro ⟨mark, live, inactive, starting, polled⟩ c
    refine ⟨Bool.eq_iff_iff.mpr ((mark c).trans (proverOn_iff s c).symm), fun h => ?_, inactive c, fun h => starting h c,
      fun h => ?_⟩
    · obtain ⟨p, t, w, hr⟩ := (proverOn_iff s c).mp h
      exact live c p t w hr
    · obtain ⟨sl, q, hq, rfl⟩ := (polledOf_iff s c).mp h
      exact polled sl q hq
  · intro h
    exact ⟨fun c => (Bool.eq_iff_iff.mp (h c).mark).trans (proverOn_iff s c),
      fun c p t w hr => (h c).live ((proverOn_iff s c).mpr ⟨p, t, w, hr⟩), fun c => (h c).inactive,
      fun hp c => (h c).starting hp, fun sl q hq => (h _).polled ((polledOf_iff s _).mpr ⟨sl, q, hq, rfl⟩)⟩

/-! ## Benches that an operation leaves -/

/-- A bench is made of the channel's state and mark, its region's active field, the phase, the slots and the prover. -/
theorem bench_congr {s t : State} {c : Chan} (state : t.channels[c].state = s.channels[c].state)
    (mark : t.channels[c].underProve = s.channels[c].underProve)
    (active : t.config.channels[c].active = s.config.channels[c].active) (phase : t.phase = s.phase)
    (slots : t.slots = s.slots) (prover : t.prover = s.prover) : t.bench c = s.bench c := by
  unfold State.bench polledOf
  rw [state, mark, active, phase, slots, proverOn_congr c prover]

section
variable (s : State)

@[simp] theorem raise_bench (src : AlertSource) (obj : Option Nat) (c : Chan) :
    (raise src obj s).bench c = s.bench c :=
  (congrArg (State.bench · c) (raise_frame src obj s) :)

@[simp] theorem setPool_bench (c' : Chan) (r : Pool) (c : Chan) : (s.setPool c' r).bench c = s.bench c := rfl
@[simp] theorem setOpenBank_bench (b : Bank) (c : Chan) : (s.setOpenBank b).bench c = s.bench c := rfl

/-- The sums of a run are not looked at, but whose it is. -/
theorem setProver_bench {r : Prover} (h : r.state = s.prover.state) (c : Chan) :
    (s.setProver r).bench c = s.bench c := by
  simp only [State.bench, proverOn, State.setProver_prover, h]
  rfl

theorem setProver_idle_bench {r : Prover} (h : r.state = .idle) (c : Chan) :
    (s.setProver r).bench c = { s.bench c with claimed := false } := by
  rw [← proverOn_of_idle (t := s.setProver r) c h]
  rfl

theorem forEach_bench {α : Type} (xs : List α) {f : α → State → State} (h : ∀ x t c, (f x t).bench c = t.bench c)
    (c : Chan) : (forEach xs f s).bench c = s.bench c :=
  forEach_keeps (fun t => t.bench c = s.bench c) xs f (fun x _ t ht => (h x t c).trans ht) s rfl

theorem setSlot_bench (sl : Slot) (r : SlotRecord) (c : Chan) :
    (s.setSlot sl r).bench c =
      { s.bench c with
        polled := if sl = slotOf c then r.poll.any fun q => q.position == positionOf c else polledOf s c } := by
  have hp : polledOf (s.setSlot sl r) c =
      if sl = slotOf c then r.poll.any fun q => q.position == positionOf c else polledOf s c := by
    unfold polledOf
    rw [State.setSlot_slots, get_set]
    split <;> rfl
  rw [← hp]
  rfl

/-- A slot's record written with the poll in flight as it was. -/
theorem setSlot_bench_same {sl : Slot} {r : SlotRecord} (h : r.poll = s.slots[sl].poll) (c : Chan) :
    (s.setSlot sl r).bench c = s.bench c := by
  rw [setSlot_bench]
  split
  · next hs =>
    subst hs
    rw [h]
    rfl
  · rfl

@[simp] theorem setPosition_bench (c' : Chan) (r : PositionRecord) (c : Chan) :
    (s.setPosition c' r).bench c = s.bench c := by
  unfold State.setPosition
  dsimp only
  exact setSlot_bench_same s (by rfl) c

@[simp] theorem renewPolling_bench (c' c : Chan) : (renewPolling c' s).bench c = s.bench c := by
  rw [renewPolling_eq, setPosition_bench]

theorem placeIncrement_bench (c' : Chan) (e : Nat) (tag : Option Consumer) (c : Chan) :
    (placeIncrement c' e tag s).bench c = s.bench c :=
  (congrArg (State.bench · c) (placeIncrement_frame c' e tag s) :)

theorem counted_bench (c' : Chan) (u : Nat) (c : Chan) : (counted c' u s).bench c = s.bench c := by
  unfold counted
  split
  · exact setProver_bench s rfl c
  · rfl

theorem raiseReading_bench (c' : Chan) (o : ReadingOutcome) (c : Chan) :
    (raiseReading c' o s).bench c = s.bench c :=
  (congrArg (State.bench · c) (raiseReading_frame c' o s) :)

end

/-! ## Benches of one channel -/

/-- From one state to another one channel's bench alone changes, as a function says. -/
structure BenchMoved (c : Chan) (f : Bench → Bench) (s t : State) : Prop where
  bench : ∀ c', t.bench c' = if c' = c then f (s.bench c') else s.bench c'

/-- The bench of a channel from which a run on it is taken. -/
def Bench.freed (b : Bench) : Bench := { b with marked := b.marked && !b.claimed, claimed := false }

/-- The bench of a channel in a state. -/
def Bench.sent (st : ChannelState) (b : Bench) : Bench := { b with state := st }

/-- The bench of a channel whose region says whether it is active. -/
def Bench.committed (a : Bool) (b : Bench) : Bench := { b with active := a }

/-- The bench of a channel as the part enters RUNNING. -/
def Bench.started (b : Bench) : Bench := { b with phase := .running }

/-- The bench of a channel that a run claims. -/
def Bench.taken (b : Bench) : Bench := { b with marked := true, claimed := true }

/-- The bench of a channel whose position is polled. -/
def Bench.polledNow (b : Bench) : Bench := { b with polled := true }

/-- The bench of a channel whose position is not polled. -/
def Bench.unpolled (b : Bench) : Bench := { b with polled := false }

theorem Bench.freed_of_unclaimed {b : Bench} (h : b.claimed = false) : b.freed = b := by
  cases b
  obtain rfl : _ = false := h
  simp [Bench.freed]

theorem Bench.Agrees.freed {b : Bench} (h : b.Agrees) : b.freed.Agrees := by
  refine ⟨?_, nofun, h.inactive, h.starting, h.polled⟩
  simp only [Bench.freed, h.mark, Bool.and_not_self]

theorem Bench.Agrees.unpolled {b : Bench} (h : b.Agrees) : b.unpolled.Agrees :=
  ⟨h.mark, h.live, h.inactive, h.starting, nofun⟩

theorem Bench.Agrees.polledNow {b : Bench} (h : b.Agrees) (hb : b.state ≠ .inactive) : b.polledNow.Agrees :=
  ⟨h.mark, h.live, h.inactive, h.starting, fun _ => hb⟩

/-- A channel that is not INACTIVE goes to such a state again, and to LIVE if the run is on it. -/
theorem Bench.Agrees.sent {b : Bench} {st : ChannelState} (h : b.Agrees) (hb : b.state ≠ .inactive) (hs : st ≠ .inactive)
    (live : b.claimed = true → st = .live) : (b.sent st).Agrees :=
  ⟨h.mark, live, iff_of_false hs (mt h.inactive.mpr hb), h.starting, fun _ => hs⟩

/-- In RUNNING less is asked than in STARTING. -/
theorem Bench.Agrees.started {b : Bench} (h : b.Agrees) : b.started.Agrees :=
  ⟨h.mark, h.live, h.inactive, nofun, h.polled⟩

theorem Bench.Agrees.taken {b : Bench} (h : b.Agrees) (hl : b.state = .live) : b.taken.Agrees :=
  ⟨rfl, fun _ => hl, h.inactive, h.starting, h.polled⟩

/-- An INACTIVE channel is activated in RUNNING: no run was on it. -/
theorem Bench.Agrees.activated {b : Bench} {st : ChannelState} (h : b.Agrees) (hr : b.phase = .running)
    (hb : b.active = false) (hs : st ≠ .inactive) : ((b.committed true).sent st).Agrees := by
  have off : b.claimed = false := by
    by_contra hon
    have hl := h.live (Bool.eq_true_of_not_eq_false hon)
    rw [h.inactive.mpr hb] at hl
    exact absurd hl (by simp)
  refine ⟨h.mark, fun hon => absurd (off.symm.trans hon) Bool.false_ne_true, iff_of_false hs Bool.noConfusion,
    fun hp => ?_, fun _ => hs⟩
  exact absurd (hr.symm.trans hp) (by simp)

/-- A channel is deactivated: it is freed, and not polled. -/
theorem Bench.Agrees.deactivated {b : Bench} (h : b.Agrees) :
    (((b.committed false).freed.sent .inactive).unpolled).Agrees :=
  ⟨h.freed.mark, nofun, iff_of_true rfl rfl, fun _ => rfl, nofun⟩

section
variable {c : Chan} {f g : Bench → Bench} {s t u : State}

theorem BenchMoved.refl (h : f (s.bench c) = s.bench c) : BenchMoved c f s s where
  bench c' := by
    split
    · next hc =>
      subst hc
      exact h.symm
    · rfl

theorem BenchMoved.trans (h : BenchMoved c f s t) (k : BenchMoved c g t u) : BenchMoved c (g ∘ f) s u where
  bench c' := by
    rw [k.bench, h.bench]
    split <;> rfl

/-- What leaves every bench may follow. -/
theorem BenchMoved.then (h : BenchMoved c f s t) (k : ∀ c', u.bench c' = t.bench c') : BenchMoved c f s u where
  bench c' := (k c').trans (h.bench c')

/-- What leaves every bench may come before. -/
theorem BenchMoved.after (h : BenchMoved c f t u) (k : ∀ c', t.bench c' = s.bench c') : BenchMoved c f s u where
  bench c' := by rw [h.bench, k]

theorem BenchMoved.congr (h : BenchMoved c f s t) (k : f (s.bench c) = g (s.bench c)) : BenchMoved c g s t where
  bench c' := by
    rw [h.bench]
    split
    · next hc =>
      subst hc
      exact k
    · rfl

/-- A channel's record written. -/
theorem setChannel_moved (c : Chan) (r : ChannelRecord) (s : State) :
    BenchMoved c (fun b => { b with state := r.state, marked := r.underProve }) s (s.setChannel c r) where
  bench c' := by
    have hr : (s.setChannel c r).bench c' =
        { s.bench c' with
          state := (s.channels.set c r)[c'].state, marked := (s.channels.set c r)[c'].underProve } := rfl
    rw [hr, get_set]
    split
    · next hc => rw [if_pos hc.symm]
    · next hc =>
      rw [if_neg (Ne.symm hc)]
      rfl

/-- A channel's record written with the mark as it was. -/
theorem setChannel_sent {r : ChannelRecord} {st : ChannelState} (hs : r.state = st)
    (hm : r.underProve = s.channels[c].underProve) : BenchMoved c (.sent st) s (s.setChannel c r) :=
  (setChannel_moved c r s).congr (by rw [hs, hm]; rfl)

/-- A channel's record written with state and mark as they were. -/
theorem setChannel_bench_same {r : ChannelRecord} (hs : r.state = s.channels[c].state)
    (hm : r.underProve = s.channels[c].underProve) (c' : Chan) : (s.setChannel c r).bench c' = s.bench c' := by
  rw [(setChannel_moved c r s).bench]
  split
  · next hc =>
    subst hc
    rw [hs, hm]
    rfl
  · rfl

/-- A run that ends clears the mark of its channel and writes its record, and the prover is IDLE with its sums (R154). -/
theorem endRun_running (o : ProveOutcome) (d : Int) {port : Port} {due w : Nat}
    (h : s.prover.state = .running c port due w) :
    endRun o d s =
      raise .proveDone (some c.val)
        ((s.setChannel c { s.channels[c] with
            underProve := false,
            prove := { outcome := o, deviation := d, channelUnits := s.prover.channelUnits,
                       referenceUnits := s.prover.referenceUnits, endTime := s.interval.plantTime } }).setProver
          { s.prover with state := .idle }) := by
  rw [endRun, h]
  rfl

/-- A run that starts marks its channel, with no other run on. -/
theorem startRun_moved (hi : s.prover.state = .idle) {r : Prover} {port : Port} {due w : Nat}
    (hr : r.state = .running c port due w) :
    BenchMoved c .taken s ((s.setChannel c { s.channels[c] with underProve := true }).setProver r) where
  bench c' := by
    have hb : ((s.setChannel c { s.channels[c] with underProve := true }).setProver r).bench c' =
        { (s.setChannel c { s.channels[c] with underProve := true }).bench c' with claimed := c == c' } := by
      have hon : proverOn ((s.setChannel c { s.channels[c] with underProve := true }).setProver r) c' = (c == c') := by
        rw [proverOn, State.setProver_prover, hr]
      rw [← hon]
      rfl
    rw [hb, (setChannel_moved ..).bench]
    split
    · next hc =>
      subst hc
      rw [beq_self_eq_true]
      rfl
    · next hc =>
      rw [beq_false_of_ne (Ne.symm hc), ← proverOn_of_idle c' hi]
      rfl

/-- No channel is left under prove at the end of a run. -/
theorem endRun_bench (o : ProveOutcome) (d : Int) (s : State) (c' : Chan) :
    (endRun o d s).bench c' = (s.bench c').freed := by
  cases hp : s.prover.state with
  | idle =>
    have he : endRun o d s = s := by rw [endRun, hp]
    rw [he, Bench.freed_of_unclaimed (proverOn_of_idle c' hp)]
  | running c port due w =>
    have hon : proverOn s c' = (c == c') := by rw [proverOn, hp]
    rw [endRun_running o d hp, raise_bench, setProver_idle_bench _ rfl, (setChannel_moved ..).bench]
    by_cases hc : c' = c
    · subst hc
      simp [Bench.freed, State.bench, hon]
    · simp [Bench.freed, State.bench, hon, hc, Ne.symm hc]

theorem abortRun_moved (c : Chan) (s : State) : BenchMoved c Bench.freed s (abortRun c s) := by
  cases hon : proverOn s c with
  | false =>
    rw [(abortRun_spec c s).1 hon]
    exact .refl (Bench.freed_of_unclaimed hon)
  | true =>
    obtain ⟨port, due, w, hp⟩ := (proverOn_iff s c).mp hon
    have he : abortRun c s = endRun .aborted 0 s := by
      rw [abortRun, hp]
      exact if_pos rfl
    refine ⟨fun c' => ?_⟩
    rw [he, endRun_bench]
    split
    · rfl
    · next hc =>
      exact Bench.freed_of_unclaimed (Bool.eq_false_iff.mpr fun h => hc (proverOn_unique h hon))

/-! ## The states of channels (R4 to R9) -/

/-- A channel that leaves LIVE is freed in the same step (R152). -/
theorem sendChannel_moved {st : ChannelState} (h : st ≠ .live) :
    BenchMoved c (.sent st ∘ .freed) s (sendChannel c st s) := by
  rw [sendChannel_eq c h, ← abortRun_channel]
  exact (abortRun_moved c s).trans (setChannel_sent rfl rfl)

theorem enterStale_moved : BenchMoved c (.sent .stale ∘ .freed) s (enterStale c s) :=
  (sendChannel_moved (by simp)).then (raise_bench _ _ _)

theorem metered_moved {r : ChannelRecord} (p : PositionRecord) (mismatch : Bool)
    (h : r.underProve = s.channels[c].underProve) : BenchMoved c (.sent r.state) s (metered c r p mismatch s) := by
  refine (setChannel_sent rfl h).then fun c' => ?_
  unfold metered
  split
  · rw [raise_bench, setPosition_bench]
  · rw [setPosition_bench]

/-- The poll of a channel's position is abandoned; a poll of another position goes on. -/
theorem abandonPoll_moved (c : Chan) (s : State) : BenchMoved c .unpolled s (abandonPoll c s) := by
  have keeps (h : polledOf s c = false) : BenchMoved c .unpolled s s := by
    refine .refl ?_
    rw [Bench.unpolled, ← h]
    rfl
  unfold abandonPoll
  dsimp only
  split
  · next q hq =>
    split
    · next hp =>
      refine ⟨fun c' => ?_⟩
      rw [setSlot_bench]
      by_cases hc : c' = c
      · subst hc
        rw [if_pos rfl, if_pos rfl]
        rfl
      · rw [if_neg hc]
        split
        · next hs =>
          have hoff : polledOf s c' = false := by
            rw [polledOf_of_slot hs, hq]
            exact beq_false_of_ne fun h => hc (chan_ext hs.symm (h.symm.trans hp))
          exact congrArg (fun b => { s.bench c' with polled := b }) hoff.symm
        · rfl
    · next hp =>
      refine keeps ?_
      rw [polledOf, hq]
      exact beq_false_of_ne hp
  · next hq =>
    refine keeps ?_
    rw [polledOf, hq]
    rfl

theorem activatedState_ne_inactive (s : State) (c : Chan) : (activatedState s c).1 ≠ .inactive := by
  unfold activatedState
  dsimp only
  split
  · split <;> simp
  · split
    · split
      · split <;> simp
      · simp
    · simp

theorem activate_moved (c : Chan) (s : State) : BenchMoved c (.sent (activatedState s c).1) s (activate c s) := by
  have hs : BenchMoved c (.sent (activatedState s c).1) s
      (s.setChannel c { s.channels[c] with
        state := (activatedState s c).1, base := (activatedState s c).2, lastReading := s.interval.plantTime }) :=
    setChannel_sent rfl rfl
  unfold activate
  refine hs.then fun c' => ?_
  dsimp only
  split
  · rw [raise_bench, renewPolling_bench]
  · rw [renewPolling_bench]

theorem deactivate_moved (c : Chan) (s : State) :
    BenchMoved c (.unpolled ∘ .sent .inactive ∘ .freed) s (deactivate c s) := by
  unfold deactivate
  refine ((sendChannel_moved (by simp)).trans (abandonPoll_moved c _)).then fun c' => ?_
  dsimp only
  rw [renewPolling_bench, setChannel_bench_same]
  · rfl
  · rfl

/-! ## Readings (R11 to R15) -/

theorem acceptReading_moved (c : Chan) (base : Option Nat) (s : State) :
    BenchMoved c (.sent .live) s (acceptReading c base s) := setChannel_sent rfl rfl

theorem handOn_bench (c : Chan) (u : Nat) (tag : Option Consumer) (s : State) (c' : Chan) :
    (handOn c u tag s).1.bench c' = s.bench c' := by
  rcases Nat.eq_zero_or_pos u with rfl | hu
  · rfl
  · rw [handOn_pos hu, placeIncrement_bench, setChannel_bench_same, counted_bench]
    · rw [counted_channels]
    · rw [counted_channels]

theorem finishReading_moved (c : Chan) (o : ReadingOutcome) (u : Nat) (base : Option Nat) (tag : Option Consumer)
    (s : State) : BenchMoved c (.sent .live) s (finishReading c o u base tag s).after :=
  (acceptReading_moved c base s).then fun _ => (handOn_bench ..).trans (raiseReading_bench ..)

theorem takeTotal_moved (c : Chan) (v : Nat) (tag : Option Consumer) (s : State) :
    BenchMoved c (.sent .live) s (takeTotal c v tag s).after := by
  unfold takeTotal
  split
  · exact acceptReading_moved ..
  · exact finishReading_moved ..

theorem takeDelta_moved (c : Chan) (d : Nat) (base : Option Nat) (tag : Option Consumer) (s : State) :
    BenchMoved c (.sent .live) s (takeDelta c d base tag s).after := by
  unfold takeDelta
  dsimp only
  split <;> exact finishReading_moved ..

end

end Sys2Proof.Machine
end

section
/-! PROOF. O55: the requests and the events that leave every bench. -/

namespace Sys2Proof.Machine

section
variable (s : State) (c : Chan)

/-! ## Pools, furnaces and lines (chapters 3 to 5) -/

@[simp] theorem settleClosingPool_bench (snap : Snapshot) (c' : Chan) :
    (settleClosingPool snap c' s).bench c = s.bench c :=
  (congrArg (State.bench · c) (settleClosingPool_frame snap c' s) :)

theorem takeCharge_bench (f : Furnace) (serial batch cullet : Nat) :
    (takeCharge f serial batch cullet s).bench c = s.bench c := by
  rw [takeCharge_eq]
  split
  · exact raise_bench ..
  · rfl

theorem bookTally_bench (l : Line) (m : TallyMasses) : (bookTally l m s).bench c = s.bench c := by
  have drawn : (tallyDrawn l m s).bench c = s.bench c := (congrArg (State.bench · c) (tallyDrawn_frame l m s) :)
  rw [bookTally_eq]
  split
  · exact (raise_bench ..).trans drawn
  · exact drawn

/-! ## Intervals and results (chapters 6 and 7) -/

/-- A new plant time changes neither states nor marks. -/
theorem restampChannels_bench (t : Nat) : (restampChannels t s).bench c = s.bench c := by
  refine bench_congr ?_ ?_ ?_ ?_ ?_ ?_ <;> dsimp only [restampChannels]
  · rw [get_ofFn]
    split <;> rfl
  · rw [get_ofFn]
    split <;> rfl

theorem clearCounts_bench : (clearCounts s).bench c = s.bench c := by
  refine bench_congr ?_ ?_ ?_ ?_ ?_ ?_ <;> dsimp only [clearCounts]
  · rw [get_ofFn]
  · rw [get_ofFn]

theorem setInterval_bench (r : IntervalRecord) : (s.setInterval r).bench c = s.bench c := rfl

theorem beginClose_bench (e start : Nat) (short : Bool) : (beginClose e start short s).bench c = s.bench c := by
  refine bench_congr ?_ ?_ ?_ ?_ ?_ ?_ <;> dsimp only [beginClose]

theorem wrapPlantTime_bench : (wrapPlantTime s).bench c = s.bench c := by
  unfold wrapPlantTime
  dsimp only
  rw [restampChannels_bench, setPlantTime, setInterval_bench]
  split
  · rfl
  · exact beginClose_bench s c wordLimit 0 true

theorem beginExpiry_bench : (beginExpiry s).bench c = s.bench c := beginClose_bench ..

theorem endClose_bench (k : Closing) : (endClose k s).bench c = s.bench c := by
  have ended : (closeEnded k s).bench c = s.bench c := by
    rw [closeEnded_frame]
    refine bench_congr ?_ ?_ ?_ ?_ ?_ ?_ <;> dsimp only [recordWritten]
  rw [endClose_eq, ← ended]
  unfold beginWaiting
  split
  · rfl
  · exact beginExpiry_bench ..
  · exact beginClose_bench ..

/-! ## Locks (chapter 9) -/

@[simp] theorem endHold_bench (r : RegionNo) (p : Port) : (endHold r p s).bench c = s.bench c :=
  (congrArg (State.bench · c) (endHold_frame r p s) :)

@[simp] theorem expireIfSilent_bench (r : RegionNo) : (expireIfSilent r s).bench c = s.bench c :=
  (congrArg (State.bench · c) (expireIfSilent_frame r s) :)

theorem applyTimeout_bench (old : Nat) : (applyTimeout old s).bench c = s.bench c := by
  unfold applyTimeout
  split
  · rfl
  · exact forEach_bench s _ (fun r t c => expireIfSilent_bench t c r) c

/-! ## Requests that leave the benches -/

/-- SET_SWITCH moves sets, and activates no channel. -/
theorem reqSetSwitch_bench (p : Port) (carrier set : Nat) : (reqSetSwitch p carrier set s).after.bench c = s.bench c := by
  have moved (k : Carrier) (x : SetName) : (s.setConfig (switched s.config k x)).bench c = s.bench c := by
    refine bench_congr ?_ ?_ ?_ ?_ ?_ ?_ <;> dsimp only [State.setConfig]
    rw [switched_channel]
    split <;> rfl
  unfold reqSetSwitch
  split
  · rfl
  · split
    · rfl
    · dsimp only
      split
      · rfl
      · split
        · rfl
        · exact moved _ _

theorem reqChargePost_bench (furnace serial batch cullet : Nat) :
    (reqChargePost furnace serial batch cullet s).after.bench c = s.bench c := by
  unfold reqChargePost
  split
  · dsimp only
    iterate 5 split; rfl
    exact takeCharge_bench ..
  · rfl

theorem furnaceRequest_bench (furnace : Nat) (source target : FurnaceState) (bad : Option LineState → Bool)
    {effect : Furnace → State → State} (h : ∀ f, (effect f s).bench c = s.bench c) :
    (furnaceRequest furnace source target bad effect s).after.bench c = s.bench c :=
  furnaceRequest_after (P := fun t => t.bench c = s.bench c) furnace source target bad effect rfl h

theorem lineRequest_bench (line : Nat) (fields : Bool) (taken : LineState → Bool)
    {op : Line → LineRecord → LineState → Taken} (h : ∀ l r st, (op l r st).after.bench c = s.bench c) :
    (lineRequest line fields taken s op).after.bench c = s.bench c :=
  lineRequest_after (P := fun t => t.bench c = s.bench c) line fields taken op rfl h

theorem reqJobStart_bench (line id gobMass gobsPerCut articleMass : Nat) :
    (reqJobStart line id gobMass gobsPerCut articleMass s).after.bench c = s.bench c := by
  refine lineRequest_bench s c line _ _ fun l r st => ?_
  dsimp only
  split
  · rfl
  · split <;> rfl

theorem tallyCurrent_bench (l : Line) (r : LineRecord) (st : LineState) (j : Job) (cuts packed : Nat) :
    (tallyCurrent l r st j cuts packed s).after.bench c = s.bench c := by
  unfold tallyCurrent
  dsimp only
  split
  · exact (raise_bench ..).trans (bookTally_bench ..)
  · exact bookTally_bench ..

theorem reqTallyPost_bench (line id cuts packed : Nat) :
    (reqTallyPost line id cuts packed s).after.bench c = s.bench c := by
  refine lineRequest_bench s c line _ _ fun l r st => ?_
  split
  · rfl
  · split
    · exact tallyCurrent_bench ..
    · exact bookTally_bench ..
    · rfl

theorem reqLineResume_bench (line : Nat) : (reqLineResume line s).after.bench c = s.bench c := by
  refine lineRequest_bench s c line _ _ fun l r _ => ?_
  dsimp only
  generalize (if s.config.furnaces[s.config.lines[l].feeding].enabled = true then
    s.furnaces[s.config.lines[l].feeding].state else none) = feeding
  split
  · rfl
  · split <;> rfl

theorem reqTimeSet_bench (t : Nat) : (reqTimeSet t s).after.bench c = s.bench c := by
  unfold reqTimeSet
  split
  · rfl
  · split
    · rfl
    · exact (restampChannels_bench ..).trans ((setInterval_bench ..).trans (beginClose_bench ..))

theorem reqClearCounts_bench : (reqClearCounts s).after.bench c = s.bench c := by
  unfold reqClearCounts
  split
  · rfl
  · exact clearCounts_bench s c

theorem reqIntervalRead_bench (p : Port) : (reqIntervalRead p s).after.bench c = s.bench c := by
  unfold reqIntervalRead
  dsimp only
  split <;> rfl

theorem reqCursorSet_bench (p : Port) (place : Nat) : (reqCursorSet p place s).after.bench c = s.bench c := by
  unfold reqCursorSet
  split <;> rfl

theorem reqCampaignReset_bench (consumer : Nat) : (reqCampaignReset consumer s).after.bench c = s.bench c := by
  unfold reqCampaignReset
  split <;> rfl

theorem reqProveApply_bench (p : Port) (channel : Nat) : (reqProveApply p channel s).after.bench c = s.bench c := by
  unfold reqProveApply
  dsimp only
  repeat' split
  all_goals rfl

theorem reqLock_bench (p : Port) (region mode : Nat) : (reqLock p region mode s).after.bench c = s.bench c := by
  unfold reqLock
  dsimp only
  repeat' split
  all_goals rfl

theorem reqLockCancel_bench (p : Port) : (reqLockCancel p s).after.bench c = s.bench c := by
  unfold reqLockCancel
  split <;> rfl

theorem reqStageWrite_bench (p : Port) (region field : Nat) (value : StageValue) :
    (reqStageWrite p region field value s).after.bench c = s.bench c := by
  unfold reqStageWrite
  dsimp only
  repeat' split
  all_goals rfl

theorem reqConfigRead_bench (p : Port) (region which : Nat) :
    (reqConfigRead p region which s).after.bench c = s.bench c := by
  unfold reqConfigRead
  dsimp only
  repeat' split
  all_goals rfl

theorem reqAlertRead_bench (p : Port) : (reqAlertRead p s).after.bench c = s.bench c := by
  unfold reqAlertRead
  dsimp only
  split
  · rfl
  · dsimp only [accept_after]
    split <;> rfl

theorem reqAlertClear_bench (p : Port) (n : Nat) : (reqAlertClear p n s).after.bench c = s.bench c := by
  unfold reqAlertClear
  split <;> rfl

theorem reqAlertMask_bench (p : Port) (m : Nat) : (reqAlertMask p m s).after.bench c = s.bench c := by
  unfold reqAlertMask
  split <;> rfl

theorem reqSave_bench : (reqSave s).after.bench c = s.bench c := by
  unfold reqSave
  split <;> rfl

end

/-- The requests that take a reading, send a channel to a state, start or stop a run, or adopt a region. -/
def movesBench : Request → Bool
  | .meterPost .. | .channelRebase _ | .proveStart .. | .proveStop | .release _ => true
  | _ => false

/-- Every request but the five of `movesBench` leaves the benches. -/
theorem requestOp_bench {r : Request} (hm : movesBench r = false) (p : Port) (s : State) (c : Chan) :
    (requestOp p r s).after.bench c = s.bench c := by
  cases r with
  | meterPost | channelRebase | proveStart | proveStop | release => exact absurd hm nofun
  | status => rfl
  | channelRead n => exact congrArg (State.bench · c) (reqChannelRead_after n s)
  | setSwitch n x => exact reqSetSwitch_bench s c p n x
  | slotRead n => exact congrArg (State.bench · c) (reqSlotRead_after n s)
  | liveRead n => exact congrArg (State.bench · c) (reqLiveRead_after n s)
  | chargePost f n b x => exact reqChargePost_bench s c f n b x
  | furnaceHold f => exact furnaceRequest_bench s c f _ _ _ fun _ => rfl
  | furnaceResume f => exact furnaceRequest_bench s c f _ _ _ fun _ => rfl
  | furnaceShutdown f => exact furnaceRequest_bench s c f _ _ _ fun _ => rfl
  | furnaceWarm f => exact furnaceRequest_bench s c f _ _ _ fun _ => rfl
  | queueRead f n => exact congrArg (State.bench · c) (reqQueueRead_after f n s)
  | jobStart l j g n a => exact reqJobStart_bench s c l j g n a
  | jobReady l => exact lineRequest_bench s c l _ _ fun _ _ _ => rfl
  | tallyPost l j n x => exact reqTallyPost_bench s c l j n x
  | lineHold l => exact lineRequest_bench s c l _ _ fun _ _ _ => rfl
  | lineResume l => exact reqLineResume_bench s c l
  | lineShutdown l => exact lineRequest_bench s c l _ _ fun _ _ _ => rfl
  | lineWarm l => exact lineRequest_bench s c l _ _ fun _ _ _ => rfl
  | stateRead l => exact congrArg (State.bench · c) (reqStateRead_after l s)
  | timeSet n => exact reqTimeSet_bench s c n
  | intervalRead => exact reqIntervalRead_bench s c p
  | intervalReadAt n => exact congrArg (State.bench · c) (reqIntervalReadAt_after n s)
  | cursorSet n => exact reqCursorSet_bench s c p n
  | totalsRead n => exact congrArg (State.bench · c) (reqTotalsRead_after n s)
  | campaignReset n => exact reqCampaignReset_bench s c n
  | clearCounts => exact reqClearCounts_bench s c
  | proveApply n => exact reqProveApply_bench s c p n
  | lock r m => exact reqLock_bench s c p r m
  | lockCancel => exact reqLockCancel_bench s c p
  | stageWrite r n v => exact reqStageWrite_bench s c p r n v
  | configRead r w => exact reqConfigRead_bench s c p r w
  | alertRead => exact reqAlertRead_bench s c p
  | alertClear a => exact reqAlertClear_bench s c p a
  | alertMask a => exact reqAlertMask_bench s c p a
  | save => exact reqSave_bench s c

/-! ## Events that leave the benches -/

/-- The events that can change a channel's state, end a run, or start or end a poll. -/
def eventMovesBench : Instr → Bool
  | .hardwareReset | .configLoadDone _ | .presenceChange .. | .settleTimerExpiry _ | .pulseSample | .pollStart _
  | .pollReply .. | .replyLimitExpiry _ | .staleTimeExpiry _ | .proveExpiry => true
  | _ => false

section
variable {s t : State} (c : Chan)

theorem exec_plantTimeTick_bench (he : exec .plantTimeTick s = .next t) : t.bench c = s.bench c := by
  obtain rfl := Host.Outcome.next.inj he
  split
  · dsimp only
    split
    · rfl
    · exact wrapPlantTime_bench (passSecond s) c
  · rfl

theorem exec_plantTimeWrap_bench (he : exec .plantTimeWrap s = .next t) : t.bench c = s.bench c := by
  obtain rfl := Host.Outcome.next.inj he
  split
  · exact wrapPlantTime_bench (passSecond s) c
  · rfl

theorem exec_intervalExpiry_bench (he : exec .intervalExpiry s = .next t) : t.bench c = s.bench c := by
  obtain rfl := Host.Outcome.next.inj he
  split
  · split
    · rfl
    · exact beginExpiry_bench s c
  · rfl

theorem exec_codeLineChange_bench {sl : Slot} {k1 k2 : Bool} (he : exec (.codeLineChange sl k1 k2) s = .next t) :
    t.bench c = s.bench c := by
  obtain rfl := Host.Outcome.next.inj he
  dsimp only
  split
  · rfl
  · exact setSlot_bench_same s (by rfl) c

theorem enterRejected_bench (sl : Slot) (why : RejectReason) (s : State) :
    (enterRejected sl why s).bench c = s.bench c :=
  (raise_bench ..).trans (setSlot_bench_same s (by rfl) c)

theorem exec_partialTimerExpiry_bench {sl : Slot} (he : exec (.partialTimerExpiry sl) s = .next t) :
    t.bench c = s.bench c := by
  obtain rfl := Host.Outcome.next.inj he
  have stopped : (s.setSlot sl { s.slots[sl] with partialDue := none }).bench c = s.bench c :=
    setSlot_bench_same s (by rfl) c
  dsimp only
  split
  · split
    · exact (enterRejected_bench ..).trans stopped
    · exact stopped
  · rfl

theorem exec_holdTimerExpiry_bench {l : Line} (he : exec (.holdTimerExpiry l) s = .next t) : t.bench c = s.bench c := by
  obtain rfl := Host.Outcome.next.inj he
  dsimp only
  split
  · rw [raise_bench, raise_bench]
    rfl
  · rfl

theorem exec_saveAccessTimeout_bench (he : exec .saveAccessTimeout s = .next t) : t.bench c = s.bench c := by
  obtain rfl := Host.Outcome.next.inj he
  split
  · rfl
  · split
    · exact raise_bench ..
    · rfl

/-- Every event but those of `eventMovesBench` leaves the benches. -/
theorem exec_bench {i : Instr} (he : exec i s = .next t) (hm : eventMovesBench i = false) (hr : i.asRequest = none)
    (hl : onLink i = false) : t.bench c = s.bench c := by
  cases i
  case plantTimeTick => exact exec_plantTimeTick_bench c he
  case plantTimeWrap => exact exec_plantTimeWrap_bench c he
  case intervalExpiry => exact exec_intervalExpiry_bench c he
  case closingPoolSettle =>
    obtain rfl := Host.Outcome.next.inj he
    split
    · rfl
    · exact settleClosingPool_bench ..
  case closeEnd =>
    obtain rfl := Host.Outcome.next.inj he
    split
    · rfl
    · exact endClose_bench ..
  case codeLineChange => exact exec_codeLineChange_bench c he
  case partialTimerExpiry => exact exec_partialTimerExpiry_bench c he
  case pulseInput =>
    obtain rfl := Host.Outcome.next.inj he
    dsimp only
    split
    · exact setPosition_bench ..
    · rfl
  case referencePulse =>
    obtain rfl := Host.Outcome.next.inj he
    split
    · rfl
    · exact setProver_bench s rfl c
  case holdTimerExpiry => exact exec_holdTimerExpiry_bench c he
  case lockExpiry r =>
    obtain rfl := Host.Outcome.next.inj he
    exact expireIfSilent_bench s c r
  case saveWriteAcknowledged =>
    obtain rfl := Host.Outcome.next.inj he
    split
    · rfl
    · dsimp only
      split <;> rfl
  case saveAccessTimeout => exact exec_saveAccessTimeout_bench c he
  all_goals revert hm hr hl; exact nofun

end

end Sys2Proof.Machine
end

section
/-! PROOF. O55: the operations that move benches keep the invariant of the prover, and with them every command. -/

namespace Sys2Proof.Machine

/-! ## A channel whose slot enters READY (R8) -/

theorem readied_mark (m : ModuleType) (s : State) (c : Chan) :
    (readied m s c).underProve = s.channels[c].underProve := by
  unfold readied
  split
  · split
    · split <;> rfl
    · rfl
  · rfl

theorem readied_ne_inactive {m : ModuleType} {s : State} {c : Chan} (h : followsSlot s c = true) :
    (readied m s c).state ≠ .inactive := by
  unfold readied
  rw [if_pos h]
  split
  · split
    · simp
    · dsimp only
      split <;> simp
  · simp

/-! ## A CHANNEL region committed (R166) -/

theorem setRegion_moved (c : Chan) (new : ChannelConfig) (s : State) :
    BenchMoved c (.committed new.active) s
      (s.setConfig { s.config with channels := s.config.channels.set c new }) where
  bench c' := by
    have hr : (s.setConfig { s.config with channels := s.config.channels.set c new }).bench c' =
        { s.bench c' with active := (s.config.channels.set c new)[c'].active } := rfl
    rw [hr, get_set]
    split
    · next hc =>
      rw [if_pos hc.symm]
      rfl
    · next hc =>
      rw [if_neg (Ne.symm hc)]
      rfl

/-! ## A configuration adopted whole (R187) -/

/-- A configuration adopted whole leaves the run, the marks and the polls, and sends the channels that it activates to
the states of R4. -/
theorem adoptWhole_bench (g : Configuration) (s : State) (c : Chan) :
    (adoptWhole g s).bench c =
      if g.channels[c].active then ((s.bench c).committed true).sent (activatedState (opened g s) c).1
      else (s.bench c).committed false := by
  have frame := (adoptWhole_metered g s).frame
  have phase := congrArg State.phase frame
  have prover := congrArg State.prover frame
  have poll := congrArg SlotRecord.poll (adoptWhole_slot g s (slotOf c))
  dsimp only [opened] at phase prover poll
  unfold State.bench polledOf
  rw [poll, phase, adoptWhole_config, proverOn_congr c prover]
  cases ha : g.channels[c].active with
  | true => rw [adoptWhole_active g s ha]; rfl
  | false => rw [(adoptWhole_inactive g s ha).1]; rfl

theorem started_bench (s : State) (due : Nat) (c : Chan) :
    { s with phase := .running, secondDue := due }.bench c = (s.bench c).started := rfl

/-! ## A poll that starts (R35) -/

theorem pollStarted_moved {sl : Slot} (q : Position) {s : State} (hp : s.slots[sl].poll = none) :
    BenchMoved (chanAt sl q) .polledNow s (s.setSlot sl (pollStarted sl q s)) where
  bench c' := by
    rw [setSlot_bench]
    by_cases hc : c' = chanAt sl q
    · subst hc
      rw [if_pos rfl, if_pos (slotOf_chanAt sl q).symm]
      simp [pollStarted, Bench.polledNow]
    · rw [if_neg hc]
      split
      · next hs =>
        have off : polledOf s c' = false := by
          rw [polledOf_of_slot hs, hp]
          rfl
        have hq : (q == positionOf c') = false :=
          beq_false_of_ne fun h => hc (by rw [← chanAt_of c', ← hs, h])
        rw [pollStarted, Option.any_some, hq, ← off]
        rfl
      · rfl

/-- The position whose poll is found due is pollable, so its channel takes readings. -/
theorem firstDue_takesReadings {sl : Slot} {s : State} {c : Chan} (h : firstDue sl s = some c) :
    ∃ q, c = chanAt sl q ∧ s.channels[chanAt sl q].state ≠ .inactive := by
  rw [firstDue_eq, Option.map_eq_some_iff] at h
  obtain ⟨q, hq, rfl⟩ := h
  obtain ⟨-, hp, -⟩ := (positionDue_iff sl s q).mp (List.find?_some hq)
  refine ⟨q, rfl, fun hi => ?_⟩
  simp [pollable, hi, ChannelState.takesReadings, -Fin.getElem_fin] at hp

namespace ProverAgrees
variable {s t : State}

/-! ## What keeps the prover -/

theorem bench (h : ProverAgrees s) (c : Chan) : (s.bench c).Agrees := (proverAgrees_iff s).mp h c

theorem of_bench (h : ProverAgrees s) (he : ∀ c, t.bench c = s.bench c) : ProverAgrees t :=
  (proverAgrees_iff t).mpr fun c => by
    rw [he]
    exact h.bench c

theorem moved {c : Chan} {f : Bench → Bench} (h : ProverAgrees s) (m : BenchMoved c f s t)
    (hf : (s.bench c).Agrees → (f (s.bench c)).Agrees) : ProverAgrees t := by
  refine (proverAgrees_iff t).mpr fun c' => ?_
  rw [m.bench]
  split
  · next hc =>
    subst hc
    exact hf (h.bench _)
  · exact h.bench c'

/-- A slot's record written with its poll in flight as it was, or with none. -/
theorem setSlot (h : ProverAgrees s) {sl : Slot} {r : SlotRecord} (hp : r.poll = s.slots[sl].poll ∨ r.poll = none) :
    ProverAgrees (s.setSlot sl r) := by
  rcases hp with hp | hp
  · exact h.of_bench (setSlot_bench_same s hp)
  · refine (proverAgrees_iff _).mpr fun c => ?_
    rw [setSlot_bench, hp]
    split
    · exact (h.bench c).unpolled
    · exact h.bench c

theorem raise (h : ProverAgrees s) (src : AlertSource) (obj : Option Nat) : ProverAgrees (raise src obj s) :=
  h.of_bench (raise_bench s src obj)

theorem forEach {α : Type} {xs : List α} {f : α → State → State} (h : ProverAgrees s)
    (hf : ∀ x {t : State}, ProverAgrees t → ProverAgrees (f x t)) : ProverAgrees (forEach xs f s) :=
  forEach_keeps ProverAgrees xs f (fun x _ _ => hf x) s h

/-- A channel is INACTIVE exactly where it is not active. -/
theorem ne_inactive (h : ProverAgrees s) {c : Chan} (ha : s.config.channels[c].active = true) :
    s.channels[c].state ≠ .inactive := fun hi =>
  absurd (ha.symm.trans ((h.bench c).inactive.mp hi)) (by simp)

/-! ## Channels (chapter 1) -/

theorem endRun (h : ProverAgrees s) (o : ProveOutcome) (d : Int) : ProverAgrees (endRun o d s) :=
  (proverAgrees_iff _).mpr fun c => by
    rw [endRun_bench]
    exact (h.bench c).freed

/-- A channel that is not INACTIVE is freed and sent to such a state. -/
theorem sendChannel (h : ProverAgrees s) {c : Chan} {st : ChannelState} (hc : s.channels[c].state ≠ .inactive)
    (hl : st ≠ .live) (hi : st ≠ .inactive) : ProverAgrees (sendChannel c st s) :=
  h.moved (sendChannel_moved hl) fun hb => hb.freed.sent hc hi nofun

theorem enterStale (h : ProverAgrees s) {c : Chan} (hc : s.channels[c].state ≠ .inactive) :
    ProverAgrees (enterStale c s) :=
  (h.sendChannel hc (by simp) (by simp)).raise _ _

/-- A reading takes its channel to LIVE, which a run allows. -/
theorem reading (h : ProverAgrees s) {c : Chan} (hc : s.channels[c].state ≠ .inactive)
    (m : BenchMoved c (.sent .live) s t) : ProverAgrees t :=
  h.moved m fun hb => hb.sent hc (by simp) fun _ => rfl

theorem samplePulse (h : ProverAgrees s) (c : Chan) : ProverAgrees (samplePulse c s) := by
  unfold Machine.samplePulse
  dsimp only
  split
  · next hg =>
    refine h.reading ?_ (takeDelta_moved ..)
    rw [hg.2.2]
    simp
  · exact h

theorem channelSlotLost (h : ProverAgrees s) (c : Chan) : ProverAgrees (channelSlotLost c s) := by
  by_cases hl : losesModule s c
  · have hs : ProverAgrees (offlined s c) := by
      rw [← offlined_eq]
      exact h.sendChannel hl.2.2 (by simp) (by simp)
    rw [channelSlotLost_lost hl]
    split
    · exact hs.raise _ _
    · exact hs
  · rw [channelSlotLost_kept hl]
    exact h

/-- A channel that follows its slot is in OFFLINE, so no run is on it. -/
theorem channelSlotReady (h : ProverAgrees s) (m : ModuleType) (c : Chan) : ProverAgrees (channelSlotReady m c s) := by
  rw [channelSlotReady_eq]
  refine h.moved (metered_moved _ _ (readied_mark m s c)) fun hb => ?_
  cases hf : followsSlot s c with
  | false =>
    rw [readied_kept hf]
    exact hb
  | true =>
    obtain ⟨-, -, why, ho⟩ := (followsSlot_iff s c).mp hf
    have offline : (s.bench c).state = .offline why := ho
    refine hb.sent (by simp [offline]) (readied_ne_inactive hf) fun hon => ?_
    exact absurd (offline.symm.trans (hb.live hon)) (by simp)

theorem leaveReady (h : ProverAgrees s) (sl : Slot) : ProverAgrees (leaveReady sl s) :=
  (h.setSlot (.inr rfl)).forEach fun c _ ht => ht.channelSlotLost c

theorem renewPolling (h : ProverAgrees s) (c : Chan) : ProverAgrees (renewPolling c s) :=
  h.of_bench (renewPolling_bench s c)

theorem enterReady (h : ProverAgrees s) (sl : Slot) (m : ModuleType) : ProverAgrees (enterReady sl m s) := by
  have hs : ProverAgrees (prepared sl m s) := h.setSlot (.inl rfl)
  have hc := hs.forEach (xs := channelsOf sl) fun c _ ht => ht.channelSlotReady m c
  rw [enterReady_eq]
  split
  · exact hc.forEach fun c _ ht => ht.renewPolling c
  · exact hc

theorem failPoll (h : ProverAgrees s) (c : Chan) : ProverAgrees (failPoll c s) := by
  unfold Machine.failPoll
  dsimp only
  split
  · next hn =>
    refine (h.of_bench (setPosition_bench s c _)).enterStale ?_
    rcases hn.2 with hs | hs <;> rw [hs] <;> simp
  · exact h.of_bench (setPosition_bench s c _)

/-! ## Adoption (R4 to R6, R166) -/

/-- In RUNNING a CHANNEL region may take new values: its channel is activated or deactivated with its region. -/
theorem adoptChannel (h : ProverAgrees s) (hr : s.phase = .running) {c : Chan} {new : ChannelConfig}
    (m : BenchMoved c (.committed new.active) s t) :
    ProverAgrees (adoptChannel c s.config.channels[c] new t) := by
  have same (ha : s.config.channels[c].active = new.active) : ProverAgrees t :=
    h.moved m fun hb => by
      rw [← ha]
      exact hb
  unfold Machine.adoptChannel
  split
  · next ho hn => exact same (ho.trans hn.symm)
  · next ho hn =>
    refine h.moved (m.trans (activate_moved c t)) fun hb => ?_
    rw [Function.comp_apply, hn]
    exact hb.activated hr ho (activatedState_ne_inactive t c)
  · next ho hn =>
    refine h.moved (m.trans (deactivate_moved c t)) fun hb => ?_
    rw [Function.comp_apply, hn]
    exact hb.deactivated
  · next ho hn =>
    have ht := same (ho.trans hn.symm)
    have hc : t.channels[c].state ≠ .inactive := by
      refine ht.ne_inactive ?_
      have ha := congrArg Bench.active (m.bench c)
      rw [if_pos rfl] at ha
      exact ha.trans hn
    split
    · exact ht.moved (((abortRun_moved c t).trans (abandonPoll_moved c _)).trans (activate_moved c _)) fun hb =>
        hb.freed.unpolled.sent hc (activatedState_ne_inactive _ c) nofun
    · split
      · exact ht.enterStale hc
      · exact ht

theorem adopt (h : ProverAgrees s) (hr : s.phase = .running) (r : RegionNo) (v : RegionValue) :
    ProverAgrees (adopt r v s) := by
  have other {g : Configuration} (hg : g.channels = s.config.channels) : ProverAgrees (s.setConfig g) :=
    h.of_bench fun c => bench_congr rfl rfl (congrArg (fun x => ChannelConfig.active x[c]) hg) rfl rfl rfl
  unfold Machine.adopt settleBeforeAdoption adoptEffects
  cases hx : regionOf r <;> cases v <;> simp only [Configuration.get, Configuration.put]
  case channel.channel c new =>
    split
    · exact h.adoptChannel hr ((setRegion_moved c new _).after fun _ => rfl)
    · exact h.adoptChannel hr (setRegion_moved c new s)
  case furnace.furnace f new =>
    unfold adoptFurnace
    split <;> exact other rfl
  case line.line l new =>
    unfold adoptLine
    split <;> exact other rfl
  case plant.plant new => split <;> exact other rfl
  all_goals exact other rfl

/-! ## Requests -/

theorem reqMeterPost (h : ProverAgrees s) (channel value : Nat) (tag : Option Nat) :
    ProverAgrees (reqMeterPost channel value tag s).after := by
  unfold Machine.reqMeterPost
  split
  · dsimp only
    split
    · exact h
    · split
      · exact h
      · next hc =>
        iterate 3 split; exact h
        dsimp only [accept_after]
        split
        · exact h.reading hc (takeTotal_moved ..)
        · exact h.reading hc (takeDelta_moved ..)
  · exact h

theorem reqChannelRebase (h : ProverAgrees s) (channel : Nat) : ProverAgrees (reqChannelRebase channel s).after := by
  unfold Machine.reqChannelRebase
  split
  · dsimp only
    split
    · exact h
    · next hc =>
      split
      · exact (h.sendChannel hc (by simp) (by simp)).of_bench (setChannel_bench_same rfl rfl)
      · exact h
  · exact h

/-- A run is started on a LIVE channel, with no other run on. -/
theorem reqProveStart (h : ProverAgrees s) (p : Port) (channel duration : Nat) :
    ProverAgrees (reqProveStart p channel duration s).after := by
  unfold Machine.reqProveStart
  split
  · split
    · split
      · exact h
      · next hi =>
        dsimp only
        split
        · next hl => exact h.moved (startRun_moved hi rfl) fun hb => hb.taken hl
        · exact h
    · exact h
  · exact h

theorem reqProveStop (h : ProverAgrees s) : ProverAgrees (reqProveStop s).after := by
  unfold Machine.reqProveStop
  split
  · exact h
  · exact h.endRun _ _

theorem reqRelease (h : ProverAgrees s) (hr : s.phase = .running) (p : Port) (action : Nat) :
    ProverAgrees (reqRelease p action s).after := by
  have dropped {u : State} (hu : ProverAgrees u) (r : RegionNo) : ProverAgrees (endHold r p u) :=
    hu.of_bench fun c => endHold_bench u c r p
  unfold Machine.reqRelease
  split
  · exact h
  · split
    · exact h
    · split
      · exact dropped h _
      · split
        · exact dropped h _
        · split
          · exact dropped h _
          · exact (dropped (h.adopt hr _ _) _).of_bench fun c => applyTimeout_bench _ c _

theorem request (h : ProverAgrees s) (hr : s.phase = .running) (p : Port) (r : Request) :
    ProverAgrees (requestOp p r s).after := by
  cases hm : movesBench r with
  | false => exact h.of_bench (requestOp_bench hm p s)
  | true =>
    cases r with
    | meterPost n v tag => exact h.reqMeterPost n v tag
    | channelRebase n => exact h.reqChannelRebase n
    | proveStart n d => exact h.reqProveStart p n d
    | proveStop => exact h.reqProveStop
    | release a => exact h.reqRelease hr p a
    | _ => exact absurd hm Bool.false_ne_true

/-! ## Rows that are requests, and the rows of the link -/

theorem answer (p : Port) (fr : Frame) {k : Taken} (h : ProverAgrees k.after) : ProverAgrees (answer p fr k) := h

theorem serve (h : ProverAgrees s) (p : Port) (tag : Octet) (r : Request) :
    ProverAgrees (serve p tag r (requestOp p r) s) := by
  refine answer p _ ?_
  rcases gate_after p r s with he | ⟨hr, he⟩
  · rw [he]
    exact h
  · rw [he]
    exact h.request hr p r

theorem serviceFrame (h : ProverAgrees s) (p : Port) (fr : Frame) : ProverAgrees (serviceFrame p fr s) := by
  refine answer p fr ?_
  rcases takeFrame_after p fr s with he | ⟨hr, r, he⟩
  · rw [he]
    exact h
  · rw [he]
    exact h.request hr p r

theorem linkOutcome (h : ProverAgrees s) (ho : LinkOutcome s t) : ProverAgrees t := by
  obtain ⟨u, only, taken⟩ := ho
  have hu : ProverAgrees u := by
    rw [only]
    exact h
  rcases taken with rfl | ⟨p, fr, rfl⟩
  · exact hu
  · exact hu.serviceFrame p fr

/-! ## The start of the part (R187) -/

theorem resetOf (s : State) : ProverAgrees (resetOf s) := by
  refine (proverAgrees_iff _).mpr fun c => ?_
  have hc : (Machine.resetOf s).channels[c] = ChannelRecord.reset := get_replicate ..
  have hg : (Machine.resetOf s).config.channels[c] = blankChannel := get_replicate ..
  have hp : polledOf (Machine.resetOf s) c = false := by
    rw [polledOf, resetOf_slot]
    rfl
  have he : (Machine.resetOf s).bench c =
      { state := .inactive, marked := false, claimed := false, active := false, phase := .starting, polled := false } := by
    unfold State.bench
    rw [hc, hg, hp]
    rfl
  rw [he]
  exact ⟨rfl, nofun, iff_of_true rfl rfl, fun _ => rfl, nofun⟩

theorem running (h : ProverAgrees s) (due : Nat) : ProverAgrees { s with phase := .running, secondDue := due } :=
  (proverAgrees_iff _).mpr fun c => (h.bench c).started

/-- In STARTING no channel is active, so the channels of an adopted configuration are free. -/
theorem adoptWhole (h : ProverAgrees s) (hs : s.phase = .starting) (g : Configuration) (due : Nat) :
    ProverAgrees { adoptWhole g s with phase := .running, secondDue := due } := by
  refine (proverAgrees_iff _).mpr fun c => ?_
  have off : (s.bench c).active = false := (h.bench c).starting hs
  rw [started_bench, adoptWhole_bench]
  split
  · exact (h.bench c).started.activated rfl off (activatedState_ne_inactive _ c)
  · rw [← off]
    exact (h.bench c).started

theorem configLoadDone (h : ProverAgrees s) {answered : Bool} (he : exec (.configLoadDone answered) s = .next t) :
    ProverAgrees t := by
  cases hp : s.phase with
  | running =>
    have hk : exec (.configLoadDone answered) s = .next s := congrArg Host.Outcome.next (if_neg (by simp [hp]))
    exact Host.Outcome.next.inj (hk.symm.trans he) ▸ h
  | starting =>
    obtain ⟨bad, good⟩ := exec_configLoadDone (answered := answered) hp
    cases hg : s.image.good answered with
    | false =>
      obtain rfl := Host.Outcome.next.inj ((bad hg).symm.trans he)
      have hm : ProverAgrees { s with loadFailed := true } := h
      exact (hm.raise _ _).running _
    | true =>
      obtain rfl := Host.Outcome.next.inj ((good hg).symm.trans he)
      exact h.adoptWhole hp _ _

/-! ## Events -/

theorem presenceChange (h : ProverAgrees s) {sl : Slot} {a b : Bool}
    (he : exec (.presenceChange sl a b) s = .next t) : ProverAgrees t := by
  obtain rfl := Host.Outcome.next.inj he
  dsimp only
  split
  · exact h
  · have hs : ProverAgrees (s.setSlot sl (sensingSlot a b s s.slots[sl])) := h.setSlot (.inl rfl)
    split
    · exact hs.leaveReady sl
    · exact hs

theorem settleTimerExpiry (h : ProverAgrees s) {sl : Slot} (he : exec (.settleTimerExpiry sl) s = .next t) :
    ProverAgrees t := by
  obtain rfl := Host.Outcome.next.inj he
  have hs : ProverAgrees (s.setSlot sl { s.slots[sl] with settleDue := none }) := h.setSlot (.inl rfl)
  have rejected (why : RejectReason) := hs.of_bench fun c => enterRejected_bench c sl why _
  dsimp only
  split
  · split
    · exact hs.enterReady sl _
    · exact hs.enterReady sl _
    · exact hs.enterReady sl _
    · exact rejected _
    · exact hs.setSlot (.inl rfl)
    · split
      · exact rejected _
      · exact hs
  · exact h

theorem pulseSample (h : ProverAgrees s) (he : exec .pulseSample s = .next t) : ProverAgrees t := by
  obtain rfl := Host.Outcome.next.inj he
  have hs : ProverAgrees { s.reach s.sampleDue with sampleDue := s.sampleDue + 1000 } := h
  refine hs.forEach fun c u hu => ?_
  split
  · exact hu.samplePulse c
  · exact hu

theorem pollStart (h : ProverAgrees s) {sl : Slot} (he : exec (.pollStart sl) s = .next t) : ProverAgrees t := by
  by_cases hn : s.slots[sl].poll ≠ none ∨ firstDue sl s = none
  · exact Host.Outcome.next.inj ((exec_pollStart_none hn).symm.trans he) ▸ h
  · obtain ⟨hp, hf⟩ := not_or.mp hn
    obtain ⟨c, hc⟩ := Option.ne_none_iff_exists'.mp hf
    obtain ⟨q, rfl, hq⟩ := firstDue_takesReadings hc
    obtain rfl := Host.Outcome.next.inj ((exec_pollStart_some (not_not.mp hp) hc).symm.trans he)
    exact h.moved (pollStarted_moved q (not_not.mp hp)) fun hb => hb.polledNow hq

/-- The channel of the poll in flight is not INACTIVE. -/
theorem polled (h : ProverAgrees s) {sl : Slot} {v : Poll} (hp : s.slots[sl].poll = some v) :
    s.channels[chanAt sl v.position].state ≠ .inactive := by
  obtain ⟨-, -, -, -, hq⟩ := h
  exact hq sl v hp

theorem endPoll (h : ProverAgrees s) (sl : Slot) : ProverAgrees (endPoll sl s) := h.setSlot (.inr rfl)

theorem pollReply (h : ProverAgrees s) {poll : PollRef} {ok : Bool} {address value : Nat}
    (he : exec (.pollReply poll ok address value) s = .next t) : ProverAgrees t := by
  obtain ⟨sl, n⟩ := poll
  cases hp : s.slots[sl].poll with
  | none => exact Host.Outcome.next.inj ((exec_pollReply_unpolled hp ..).symm.trans he) ▸ h
  | some v =>
    obtain rfl := Host.Outcome.next.inj ((exec_pollReply_polled hp ..).symm.trans he)
    split
    · split
      · have hs : ProverAgrees (pollEnded sl v.position 0 s) := h.setSlot (.inr rfl)
        exact hs.reading (h.polled hp) (takeTotal_moved ..)
      · exact (h.endPoll sl).failPoll _
    · exact h

theorem replyLimitExpiry (h : ProverAgrees s) {sl : Slot} (he : exec (.replyLimitExpiry sl) s = .next t) :
    ProverAgrees t := by
  obtain rfl := Host.Outcome.next.inj he
  split
  · exact h
  · split
    · exact (h.endPoll sl).failPoll _
    · exact h

theorem staleTimeExpiry (h : ProverAgrees s) {c : Chan} (he : exec (.staleTimeExpiry c) s = .next t) :
    ProverAgrees t := by
  obtain rfl := Host.Outcome.next.inj he
  split
  · next ho =>
    simp only [staleTimeOut, Bool.and_eq_true] at ho
    obtain ⟨⟨⟨ha, -⟩, -⟩, -⟩ := ho
    exact h.enterStale (h.ne_inactive ha)
  · exact h

theorem proveExpiry (h : ProverAgrees s) (he : exec .proveExpiry s = .next t) : ProverAgrees t := by
  obtain rfl := Host.Outcome.next.inj he
  split
  · exact h
  · dsimp only
    split
    · exact h.endRun _ _
    · exact h

theorem event (h : ProverAgrees s) {i : Instr} (he : exec i s = .next t) (hr : i.asRequest = none)
    (hl : onLink i = false) : ProverAgrees t := by
  cases hm : eventMovesBench i with
  | false => exact h.of_bench fun c => exec_bench c he hm hr hl
  | true =>
    cases i
    case hardwareReset =>
      obtain rfl := Host.Outcome.next.inj ((exec_hardwareReset s).symm.trans he)
      exact resetOf s
    case configLoadDone => exact h.configLoadDone he
    case presenceChange => exact h.presenceChange he
    case settleTimerExpiry => exact h.settleTimerExpiry he
    case pulseSample => exact h.pulseSample he
    case pollStart => exact h.pollStart he
    case pollReply => exact h.pollReply he
    case replyLimitExpiry => exact h.replyLimitExpiry he
    case staleTimeExpiry => exact h.staleTimeExpiry he
    case proveExpiry => exact h.proveExpiry he
    all_goals exact absurd hm Bool.false_ne_true

/-- Every command keeps the prover. -/
theorem exec (h : ProverAgrees s) {i : Instr} (he : exec i s = .next t) : ProverAgrees t := by
  cases hr : i.asRequest with
  | some q =>
    obtain ⟨p, tag, r⟩ := q
    obtain rfl := Host.Outcome.next.inj ((exec_request hr s).symm.trans he)
    exact h.serve p tag r
  | none =>
    cases hl : onLink i with
    | true => exact h.linkOutcome (exec_link_outcome hl he)
    | false => exact h.event he hr hl

end ProverAgrees

/-- Settles O55: the invariant is one of each channel's bench (`proverAgrees_iff`), and every command moves the benches
within it. -/
theorem stepKeepsTheProver : Obligations.StepKeepsTheProver := fun _ _ h ht =>
  step_keeps (P := ProverAgrees) (fun _ _ h => h) (fun _ _ h => h) (fun _ _ _ h he => h.exec he) h ht

end Sys2Proof.Machine
end

section
/-! PROOF. O46 and O47: the run of the prover, its start and its ends, and the deviation. -/

namespace Sys2Proof.Machine

/-- A request row in RUNNING answers what its operation takes, in the state it leaves. -/
theorem next_serve_running {p : Port} {tag : Octet} {r : Request} {op : State → Taken} {s : State} {t : Taken}
    (hr : s.phase = .running) (h : op s = t) :
    Host.Outcome.next (serve p tag r op s) =
      (.next (replied p tag r t.status t.payload t.after) : Host.Outcome State Fault Refusal) :=
  h ▸ congrArg Host.Outcome.next (serve_running p tag r op hr)

/-! ## PROVE_START (R149) -/

section
variable {p : Port} {s : State} {d : Nat}

theorem reqProveStart_range {n : Nat} (h : 31 < n ∨ d < 60 ∨ 7200 < d) : reqProveStart p n d s = refuse s .range [] := by
  unfold reqProveStart
  split
  · exact if_neg (by omega)
  · rfl

variable {c : Chan} (hd : 60 ≤ d ∧ d ≤ 7200)
include hd

theorem reqProveStart_busy {c' : Chan} {port : Port} {due w : Nat} (h : s.prover.state = .running c' port due w) :
    reqProveStart p c.val d s = proverBusy s c' port due := by
  rw [reqProveStart, dif_pos c.isLt, if_pos hd, h]

theorem reqProveStart_wrongState (hi : s.prover.state = .idle) (hl : s.channels[c].state ≠ .live) :
    reqProveStart p c.val d s = refuse s .wrongState (octets 1 s.channels[c].state.code) := by
  rw [reqProveStart, dif_pos c.isLt, if_pos hd, hi]
  exact if_neg hl

theorem reqProveStart_taken (hi : s.prover.state = .idle) (hl : s.channels[c].state = .live) :
    reqProveStart p c.val d s =
      accept ((s.setChannel c { s.channels[c] with underProve := true }).setProver
          { state := .running c p (s.clock + 1000 * d) s.config.plant.proverWeight, channelUnits := 0,
            referenceUnits := 0 })
        (octets 4 s.interval.plantTime ++ octets 2 d) := by
  rw [reqProveStart, dif_pos c.isLt, if_pos hd, hi]
  exact if_pos hl

end

/-! ## Reference pulses (R148) -/

theorem exec_referencePulse_idle {s : State} (h : s.prover.state = .idle) : exec .referencePulse s = .next s := by
  refine congrArg Host.Outcome.next ?_
  rw [h]

theorem exec_referencePulse_running {s : State} {c : Chan} {port : Port} {due w : Nat}
    (h : s.prover.state = .running c port due w) :
    exec .referencePulse s =
      .next (s.setProver { s.prover with referenceUnits := min (s.prover.referenceUnits + w) (2 ^ 64 - 1) }) := by
  refine congrArg Host.Outcome.next ?_
  rw [h]
  rfl

/-- Settles O46: the two cases of the row, and the weight of the run that `reqProveStart_taken` starts. -/
theorem referencePulsesCountInARun : Obligations.ReferencePulsesCountInARun := by
  refine fun s => ⟨exec_referencePulse_idle, fun c port due w h => exec_referencePulse_running h,
    fun p tag c d t hr hi hl h60 h7200 he => ?_⟩
  obtain rfl := Host.Outcome.next.inj ((next_serve_running hr (reqProveStart_taken ⟨h60, h7200⟩ hi hl)).symm.trans he)
  exact ⟨p, s.clock + 1000 * d, rfl⟩

/-! ## The deviation (R153) -/

/-- The quotient of R153 before the clamp: its magnitude to the nearest whole number, a half upwards, with the sign. -/
def rounded (n : Int) (reference : Nat) : Int :=
  if n < 0 then -((2 * n.natAbs + reference) / (2 * reference) : Nat) else ((2 * n.natAbs + reference) / (2 * reference) : Nat)

theorem deviation_eq (units reference : Nat) :
    deviation units reference =
      max (-999999) (min 999999 (rounded ((1000 * (units : Int) - reference) * 10 ^ 6) reference)) := rfl

theorem rounded_neg (n : Int) {r : Nat} (hr : 0 < r) : rounded (-n) r = -rounded n r := by
  rcases lt_trichotomy n 0 with h | rfl | h
  · simp [rounded, h, h.le]
  · simp [rounded, Nat.div_eq_of_lt (show r < 2 * r by omega)]
  · simp [rounded, h, h.le]

/-- The quotient reaches a positive number exactly from half a unit below it. -/
theorem le_rounded_iff {n : Int} {r k : Nat} (hr : 0 < r) (hk : 0 < k) :
    (k : Int) ≤ rounded n r ↔ (2 * k - 1) * (r : Int) ≤ 2 * n := by
  have hkr : (r : Int) ≤ k * r := by exact_mod_cast Nat.le_mul_of_pos_left r hk
  rw [show (2 * (k : Int) - 1) * r = 2 * (k * r) - r by ring]
  by_cases hn : n < 0
  · rw [rounded, if_pos hn]
    generalize (2 * n.natAbs + r) / (2 * r) = m
    omega
  · obtain ⟨a, rfl⟩ := Int.eq_ofNat_of_zero_le (not_lt.mp hn)
    rw [rounded, if_neg hn, Int.natAbs_natCast, Nat.cast_le, Nat.le_div_iff_mul_le (by omega),
      show k * (2 * r) = 2 * (k * r) by ring]
    omega

/-- The quotient is the nearest, and of two the one further from zero. -/
theorem rounded_nearest (n : Int) {r : Nat} (hr : 0 < r) :
    2 * (n - rounded n r * r) ≤ r ∧ -(r : Int) ≤ 2 * (n - rounded n r * r) ∧
      (2 * (n - rounded n r * r) = r → rounded n r < 0) ∧ (2 * (n - rounded n r * r) = -(r : Int) → 0 < rounded n r) := by
  obtain ⟨m, hm⟩ : ∃ m, (2 * n.natAbs + r) / (2 * r) = m := ⟨_, rfl⟩
  have hlow : 2 * (m * r) ≤ 2 * n.natAbs + r := by
    calc 2 * (m * r) = m * (2 * r) := by ring
      _ ≤ _ := hm ▸ Nat.div_mul_le_self ..
  have hhigh : 2 * n.natAbs < 2 * (m * r) + r := by
    have := Nat.lt_mul_div_succ (2 * n.natAbs + r) (show 0 < 2 * r by omega)
    rw [hm, show 2 * r * (m + 1) = 2 * (m * r) + 2 * r by ring] at this
    omega
  have hzero : m = 0 → m * r = 0 := fun h => by rw [h, Nat.zero_mul]
  by_cases hn : n < 0
  · rw [rounded, if_pos hn, hm, neg_mul, ← Nat.cast_mul]
    clear hm
    omega
  · rw [rounded, if_neg hn, hm, ← Nat.cast_mul]
    clear hm
    omega

/-- The deviation is the quotient, clamped: what R153 asks of it, for every dividend. -/
theorem clamped_rounded_spec (n : Int) {r : Nat} (hr : 0 < r) :
    let d := max (-999999) (min 999999 (rounded n r))
    d ≥ -999999 ∧ d ≤ 999999 ∧
    (d = 999999 ↔ 1999997 * (r : Int) ≤ 2 * n) ∧ (d = -999999 ↔ 2 * n ≤ -1999997 * (r : Int)) ∧
    (-999999 < d → d < 999999 →
      2 * (n - d * r) ≤ r ∧ -(r : Int) ≤ 2 * (n - d * r) ∧
      (2 * (n - d * r) = r → d < 0) ∧ (2 * (n - d * r) = -(r : Int) → 0 < d)) := by
  have htop := le_rounded_iff (n := n) (k := 999999) hr (by decide)
  have hbottom := le_rounded_iff (n := -n) (k := 999999) hr (by decide)
  rw [rounded_neg n hr] at hbottom
  norm_num at htop hbottom
  refine ⟨by omega, by omega, by rw [← htop]; omega, ?_, fun h h' => ?_⟩
  · rw [show 2 * n ≤ -1999997 * (r : Int) ↔ rounded n r ≤ -999999 by omega]
    omega
  · rw [show max (-999999) (min 999999 (rounded n r)) = rounded n r by omega]
    exact rounded_nearest n hr

/-! ## The ends of a run (R151, R153, R154) -/

section
variable {s : State} {c : Chan} {port : Port} {due w : Nat}

theorem exec_proveExpiry_idle (h : s.prover.state = .idle) : exec .proveExpiry s = .next s := by
  refine congrArg Host.Outcome.next ?_
  rw [h]

variable (h : s.prover.state = .running c port due w)
include h

theorem exec_proveExpiry_reached (hd : due ≤ s.clock) :
    exec .proveExpiry s = .next (endRun (proveResult s.prover).1 (proveResult s.prover).2 s) := by
  refine congrArg Host.Outcome.next ?_
  rw [h]
  exact if_pos hd

theorem exec_proveExpiry_early (hd : s.clock < due) : exec .proveExpiry s = .next s := by
  refine congrArg Host.Outcome.next ?_
  rw [h]
  exact if_neg (by omega)

theorem reqProveStop_running :
    reqProveStop s =
      accept (endRun (proveResult s.prover).1 (proveResult s.prover).2 s)
        (octets 1 c.val ++ octets 1 (proveResult s.prover).1.code ++ signedOctets 3 (proveResult s.prover).2 ++
          octets 8 s.prover.channelUnits ++ octets 8 s.prover.referenceUnits) := by
  rw [reqProveStop, h]

end

theorem reqProveStop_idle {s : State} (h : s.prover.state = .idle) : reqProveStop s = refuse s .proverIdle [] := by
  rw [reqProveStop, h]

/-- Settles O47. -/
theorem proveRunsStartAndEnd : Obligations.ProveRunsStartAndEnd := by
  refine ⟨fun p tag s hr => ⟨fun hi => ?idleStop, fun n d hn => ?range, fun c d h60 h7200 =>
    ⟨fun hi hl => ?start, fun hi hl => ?notLive, fun c' port due w h => ?busy⟩⟩, fun s hi => ?idleExpiry,
    fun s c port due w h => ⟨fun hd => ?expiry, fun hd => ?early, fun p tag hr => ?stop⟩, fun units reference h => ?dev⟩
  case idleStop => exact next_serve_running hr (reqProveStop_idle hi)
  case range => exact next_serve_running hr (reqProveStart_range hn)
  case start => exact next_serve_running hr (reqProveStart_taken ⟨h60, h7200⟩ hi hl)
  case notLive => exact next_serve_running hr (reqProveStart_wrongState ⟨h60, h7200⟩ hi hl)
  case busy => exact next_serve_running hr (reqProveStart_busy ⟨h60, h7200⟩ h)
  case idleExpiry => exact exec_proveExpiry_idle hi
  case expiry => exact (exec_proveExpiry_reached h hd).trans (congrArg Host.Outcome.next (endRun_running _ _ h))
  case early => exact exec_proveExpiry_early h hd
  case stop =>
    refine (next_serve_running hr (reqProveStop_running h)).trans ?_
    rw [accept_after, endRun_running _ _ h]
    rfl
  case dev => exact clamped_rounded_spec _ h

end Sys2Proof.Machine
end

section
/-! PROOF. O48: PROVE_APPLY and the staged trim. -/

namespace Sys2Proof.Machine

theorem holdOf_eq_none {p : Port} {r : RegionNo} {s : State} (h : ∀ h, s.locks[r].hold = some h → h.port ≠ p) :
    holdOf p r s = none := by
  simpa [holdOf, Option.filter_eq_none_iff] using h

theorem holdOf_eq_some {p : Port} {r : RegionNo} {s : State} {h : Hold} (hh : s.locks[r].hold = some h)
    (hp : h.port = p) : holdOf p r s = some h :=
  Option.filter_eq_some_iff.mpr ⟨hh, by simpa using hp⟩

/-- Whether the clamp applied, as a no or yes, is whether the clamped trim is the wanted one. -/
theorem yesNo_bne (x y : Int) : yesNo (x != y) = octets 1 (if x = y then 1 else 0) := by
  by_cases h : x = y <;> simp [yesNo, h]

section
variable {p : Port} {c : Chan} {s : State}

theorem reqProveApply_notHolder (h : holdOf p (channelRegion c) s = none) :
    reqProveApply p c.val s = notHolder (channelRegion c) s := by
  rw [reqProveApply, dif_pos c.isLt]
  simp only [Fin.eta, h]

variable {h : Hold} (hh : holdOf p (channelRegion c) s = some h)
include hh

theorem reqProveApply_underProve {port : Port} {due w : Nat} (hp : s.prover.state = .running c port due w) :
    reqProveApply p c.val s = proverBusy (touch (channelRegion c) h s) c port due := by
  rw [reqProveApply, dif_pos c.isLt]
  simp only [Fin.eta, hh, hp, if_true]

/-- With the channel not under prove the record decides. -/
theorem reqProveApply_free (hp : ∀ port due w, s.prover.state ≠ .running c port due w) :
    reqProveApply p c.val s =
      if s.channels[c].prove.outcome = .passed then
        let before := stagedTrim h.staging
        let wanted := before - correction s.channels[c].prove.deviation
        accept (stage (channelRegion c) h (h.staging.withField 12 (.trim (clampTrim wanted))) s)
          (signedOctets 3 s.channels[c].prove.deviation ++ signedOctets 2 before ++ signedOctets 2 (clampTrim wanted) ++
            yesNo (clampTrim wanted != wanted))
      else refuse (touch (channelRegion c) h s) .wrongState (octets 1 s.channels[c].prove.outcome.code) := by
  rw [reqProveApply, dif_pos c.isLt]
  simp only [Fin.eta, hh]
  cases hs : s.prover.state with
  | idle => rfl
  | running c' port due w =>
    have hc : c' ≠ c := by
      rintro rfl
      exact hp _ _ _ hs
    simp only [if_neg hc]

/-- The trim applied: `wanted` is the corrected trim before the clamp. -/
theorem reqProveApply_passed (hp : ∀ port due w, s.prover.state ≠ .running c port due w)
    (ho : s.channels[c].prove.outcome = .passed) {v : ChannelConfig} (hv : h.staging = .channel v) {wanted : Int}
    (hw : v.trim - correction s.channels[c].prove.deviation = wanted) :
    reqProveApply p c.val s =
      accept (touch (channelRegion c) { h with staging := .channel { v with trim := clampTrim wanted } } s)
        (signedOctets 3 s.channels[c].prove.deviation ++ signedOctets 2 v.trim ++ signedOctets 2 (clampTrim wanted) ++
          octets 1 (if clampTrim wanted = wanted then 1 else 0)) := by
  rw [reqProveApply_free hh hp, if_pos ho, hv, ← yesNo_bne, ← hw]
  rfl

end

/-- Settles O48. -/
theorem proveApplyCorrectsTheStagedTrim : Obligations.ProveApplyCorrectsTheStagedTrim := by
  refine fun p tag c s hr => ⟨fun hn => ?notHolder, fun h v hh hp hv => ⟨fun port due w hs => ?underProve,
    fun hs => ⟨fun ho => ?notPassed, fun ho => ?passed⟩⟩⟩
  case notHolder =>
    rw [optional_map]
    exact next_serve_running hr (reqProveApply_notHolder (holdOf_eq_none hn))
  all_goals have hmine := holdOf_eq_some hh hp
  case underProve => exact next_serve_running hr (reqProveApply_underProve hmine hs)
  case notPassed => exact next_serve_running hr ((reqProveApply_free hmine hs).trans (if_neg ho))
  case passed => exact next_serve_running hr (reqProveApply_passed hmine hs ho hv rfl)

end Sys2Proof.Machine
end

section
/-! PROOF. O52: what the attention outputs follow is kept by the writes, the shared operations and the requests. -/

namespace Sys2Proof.Machine

namespace AttentionFollows

/-! ## Writes to ports and pending sets (R180) -/

/-- The attention outputs are a matter of ports and alerts alone. -/
theorem of_same {s t : State} (h : AttentionFollows s) (hp : t.ports = s.ports) (ha : t.alerts = s.alerts) :
    AttentionFollows t := by
  unfold AttentionFollows
  rw [hp, ha]
  exact h

/-- A source raised on every port sets every output anew. -/
theorem raised {src : AlertSource} {obj : Option Nat} {s : State} : AttentionFollows (raise src obj s) := by
  intro p
  rw [raise_ports, raise_alerts]

/-- Where sources are raised the outputs are set anew, and elsewhere nothing changes that they follow. -/
theorem of_raisedJust {raised : AlertSource → Option Nat → Prop} {s t : State} (h : AttentionFollows s)
    (hr : RaisedJust raised s t) : AttentionFollows t := by
  obtain ⟨ha, hnone, hsome⟩ := hr
  intro p
  by_cases hn : ∃ src obj, raised src obj
  · rw [hsome hn p]
  · push Not at hn
    rw [hnone hn, h p]
    exact (wantsAttention_congr (ha p).1 fun src => ((ha p).2 src).1 (hn src)).symm

variable {s : State} (h : AttentionFollows s)
include h

theorem setAlerts {p : Port} {a : AlertRecord} : AttentionFollows (s.setAlerts p a) := by
  intro q
  rw [setAlerts_port, setAlerts_alerts]
  split
  · rfl
  · exact h q

theorem raiseTo {p : Port} {src : AlertSource} {obj : Option Nat} : AttentionFollows (raiseTo p src obj s) :=
  h.setAlerts

theorem setPort {p : Port} {r : PortRecord} (hr : r.attention = s.ports[p].attention) :
    AttentionFollows (s.setPort p r) := by
  intro q
  rw [State.setPort_ports, get_set]
  split
  · next hq => exact hr.trans (hq ▸ h p)
  · exact h q

theorem forEach {α : Type} {xs : List α} {f : α → State → State}
    (hf : ∀ x {t : State}, AttentionFollows t → AttentionFollows (f x t)) : AttentionFollows (forEach xs f s) :=
  forEach_keeps AttentionFollows xs f (fun x _ _ => hf x) s h

/-! ## Writes elsewhere -/

theorem setChannel {c : Chan} {r : ChannelRecord} : AttentionFollows (s.setChannel c r) := h
theorem setSlot {sl : Slot} {r : SlotRecord} : AttentionFollows (s.setSlot sl r) := h
theorem setPosition {c : Chan} {r : PositionRecord} : AttentionFollows (s.setPosition c r) := h
theorem setLine {l : Line} {r : LineRecord} : AttentionFollows (s.setLine l r) := h
theorem setInterval {r : IntervalRecord} : AttentionFollows (s.setInterval r) := h
theorem setProver {r : Prover} : AttentionFollows (s.setProver r) := h
theorem setConfig {g : Configuration} : AttentionFollows (s.setConfig g) := h
theorem setLock {r : RegionNo} {x : LockRecord} : AttentionFollows (s.setLock r x) := h
theorem setPortLock {p : Port} {x : PortLock} : AttentionFollows (s.setPortLock p x) := h
theorem book {a : Account} {x : Nat} : AttentionFollows (s.book a x) := h

/-! ## Readings and channels (chapters 1, 3 and 8) -/

theorem endRun {o : ProveOutcome} {d : Int} : AttentionFollows (endRun o d s) := by
  unfold Machine.endRun
  split
  · exact h
  · exact raised

theorem placeIncrement {c : Chan} {e : Nat} {tag : Option Consumer} : AttentionFollows (placeIncrement c e tag s) := by
  unfold Machine.placeIncrement
  dsimp only
  split
  · exact h
  · unfold placeState
    dsimp only
    split <;> exact h
  · unfold placeTagged
    split
    · split
      · exact h
      · exact raised
    · exact raised
  · exact h

theorem handOn {c : Chan} {u : Nat} {tag : Option Consumer} : AttentionFollows (handOn c u tag s).1 := by
  unfold Machine.handOn
  split
  · exact h
  · dsimp only
    refine (setChannel ?_).placeIncrement
    split
    · exact h.setProver
    · exact h

theorem finishReading {c : Chan} {o : ReadingOutcome} {u : Nat} {base : Option Nat} {tag : Option Consumer} :
    AttentionFollows (finishReading c o u base tag s).after := by
  refine handOn ?_
  unfold raiseReading
  split
  · exact raised
  · exact raised
  · exact h

theorem takeTotal {c : Chan} {v : Nat} {tag : Option Consumer} : AttentionFollows (takeTotal c v tag s).after := by
  unfold Machine.takeTotal
  split
  · exact h
  · exact h.finishReading

theorem takeDelta {c : Chan} {delta : Nat} {base : Option Nat} {tag : Option Consumer} :
    AttentionFollows (takeDelta c delta base tag s).after := by
  unfold Machine.takeDelta
  dsimp only
  split <;> exact h.finishReading

theorem samplePulse {c : Chan} : AttentionFollows (samplePulse c s) := by
  unfold Machine.samplePulse
  dsimp only
  split
  · exact h.takeDelta
  · exact h

theorem sendChannel {c : Chan} {st : ChannelState} : AttentionFollows (sendChannel c st s) := by
  unfold Machine.sendChannel
  dsimp only
  split
  · exact h
  · exact h.of_raisedJust (abortRun_raised c s)

theorem abandonPoll {c : Chan} : AttentionFollows (abandonPoll c s) := by
  unfold Machine.abandonPoll
  dsimp only
  split
  · split <;> exact h
  · exact h

theorem renewPolling {c : Chan} : AttentionFollows (renewPolling c s) := by
  rw [renewPolling_eq]
  exact h

theorem activate {c : Chan} : AttentionFollows (activate c s) := by
  unfold Machine.activate
  dsimp only
  split
  · exact raised
  · exact h.setChannel.renewPolling

theorem deactivate {c : Chan} : AttentionFollows (deactivate c s) :=
  (h.sendChannel (st := .inactive)).abandonPoll.setChannel.renewPolling

theorem adoptChannel {c : Chan} {old new : ChannelConfig} : AttentionFollows (adoptChannel c old new s) := by
  unfold Machine.adoptChannel
  split
  · exact h
  · exact h.activate
  · exact h.deactivate
  · split
    · exact (h.of_raisedJust (abortRun_raised c s)).abandonPoll.activate
    · split
      · exact raised
      · exact h

/-! ## Slots (chapter 2) -/

theorem leaveReady {sl : Slot} : AttentionFollows (leaveReady sl s) :=
  h.setSlot.of_raisedJust (lostUpTo_channelsOf sl _).raised

theorem enterReady {sl : Slot} {m : ModuleType} : AttentionFollows (enterReady sl m s) :=
  h.setSlot.of_raisedJust (enterReady_metered sl m s).raised

theorem failPoll {c : Chan} : AttentionFollows (failPoll c s) := by
  unfold Machine.failPoll
  dsimp only
  split
  · exact raised
  · exact h

/-! ## Furnaces and lines (chapters 4 and 5) -/

theorem takeCharge {f : Furnace} {serial batch cullet : Nat} :
    AttentionFollows (takeCharge f serial batch cullet s) := by
  unfold Machine.takeCharge
  dsimp only
  split
  · exact raised
  · exact h

theorem draw {f : Furnace} {m : Nat} : AttentionFollows (draw f m s) := by
  unfold Machine.draw
  dsimp only
  split
  · exact raised
  · exact h

theorem bookTally {l : Line} {m : TallyMasses} : AttentionFollows (bookTally l m s) := by
  unfold Machine.bookTally
  dsimp only
  split
  · exact raised
  · split
    · exact h.book.book.book.draw
    · exact h

/-! ## Intervals (chapter 6) -/

theorem beginClose {e start : Nat} {short : Bool} : AttentionFollows (beginClose e start short s) := by
  dsimp only [AttentionFollows, Machine.beginClose]
  exact h

theorem restampChannels {time : Nat} : AttentionFollows (restampChannels time s) := by
  dsimp only [AttentionFollows, Machine.restampChannels]
  exact h

theorem wrapPlantTime : AttentionFollows (wrapPlantTime s) := by
  unfold Machine.wrapPlantTime
  dsimp only
  refine restampChannels (setInterval ?_)
  split
  · exact h.setInterval
  · exact h.beginClose

theorem beginWaiting {w : Waiting} : AttentionFollows (beginWaiting w s) := by
  cases w with
  | none => exact h
  | expiry => exact h.beginClose
  | wrap => exact h.beginClose

theorem endClose {k : Closing} : AttentionFollows (endClose k s) := by
  rw [endClose_eq]
  exact (h.of_raisedJust (closeEnded_raisedJust k s)).beginWaiting

/-! ## Locks (chapter 9) -/

theorem grantNext {r : RegionNo} : AttentionFollows (grantNext r s) := by
  unfold Machine.grantNext
  split
  · exact h
  · exact h.setLock.setPortLock.raiseTo

theorem endHold {r : RegionNo} {p : Port} : AttentionFollows (endHold r p s) :=
  h.setPortLock.grantNext

theorem dropLocks {p : Port} : AttentionFollows (dropLocks p s) := by
  unfold Machine.dropLocks
  dsimp only
  split <;> split
  · exact h.endHold
  · exact h
  · exact h.endHold
  · exact h

theorem expireIfSilent {r : RegionNo} : AttentionFollows (expireIfSilent r s) := by
  unfold Machine.expireIfSilent expireLock
  split
  · split
    · exact h
    · exact h.raiseTo.endHold
  · exact h

theorem adoptEffects {r : RegionNo} {old new : RegionValue} : AttentionFollows (adoptEffects r old new s) := by
  unfold Machine.adoptEffects
  split
  · exact h.adoptChannel
  · unfold adoptFurnace
    split <;> exact h
  · unfold adoptLine
    split <;> exact h
  · dsimp only
    split <;> exact h
  · exact h

theorem adopt {r : RegionNo} {v : RegionValue} : AttentionFollows (adopt r v s) := by
  refine (setConfig ?_).adoptEffects
  unfold settleBeforeAdoption
  split
  · split <;> exact h
  · exact h

theorem applyTimeout {old : Nat} : AttentionFollows (applyTimeout old s) := by
  unfold Machine.applyTimeout
  split
  · exact h
  · exact h.forEach fun r _ ht => ht.expireIfSilent

/-! ## Requests -/

theorem reqMeterPost {channel value : Nat} {tag : Option Nat} :
    AttentionFollows (reqMeterPost channel value tag s).after := by
  unfold Machine.reqMeterPost
  split
  · dsimp only
    iterate 5 split; exact h
    dsimp only [accept_after]
    split
    · exact h.takeTotal
    · exact h.takeDelta
  · exact h

theorem reqChannelRebase {channel : Nat} : AttentionFollows (reqChannelRebase channel s).after := by
  unfold Machine.reqChannelRebase
  split
  · dsimp only
    split
    · exact h
    · split
      · exact h.sendChannel (st := .basing)
      · exact h
  · exact h

theorem reqSetSwitch {p : Port} {carrier set : Nat} : AttentionFollows (reqSetSwitch p carrier set s).after := by
  unfold Machine.reqSetSwitch
  split
  · exact h
  · split
    · exact h
    · dsimp only
      split
      · exact h
      · split
        · exact h
        · exact h.setConfig

theorem reqChargePost {furnace serial batch cullet : Nat} :
    AttentionFollows (reqChargePost furnace serial batch cullet s).after := by
  unfold Machine.reqChargePost
  split
  · dsimp only
    iterate 5 split; exact h
    exact h.takeCharge
  · exact h

theorem reqJobStart {line id gobMass gobsPerCut articleMass : Nat} :
    AttentionFollows (reqJobStart line id gobMass gobsPerCut articleMass s).after := by
  refine lineRequest_after line _ _ _ h fun l r st => ?_
  dsimp only
  split
  · exact h
  · split <;> exact h

theorem reqTallyPost {line id cuts packed : Nat} : AttentionFollows (reqTallyPost line id cuts packed s).after := by
  refine lineRequest_after line _ _ _ h fun l r st => ?_
  split
  · exact h
  · split
    · unfold tallyCurrent
      dsimp only
      split
      · exact raised
      · exact h.setLine.bookTally
    · exact h.setLine.bookTally
    · exact h

theorem reqLineResume {line : Nat} : AttentionFollows (reqLineResume line s).after := by
  refine lineRequest_after line _ _ _ h fun l r _ => ?_
  dsimp only
  generalize (if s.config.furnaces[s.config.lines[l].feeding].enabled then _ else _ : Option FurnaceState) = fst
  split
  · exact h
  · split <;> exact h

theorem reqTimeSet {t : Nat} : AttentionFollows (reqTimeSet t s).after := by
  unfold Machine.reqTimeSet
  split
  · exact h
  · split
    · exact h
    · exact h.beginClose.setInterval.restampChannels

theorem reqIntervalRead {p : Port} : AttentionFollows (reqIntervalRead p s).after := by
  unfold Machine.reqIntervalRead
  dsimp only
  split <;> exact h

theorem reqCursorSet {p : Port} {place : Nat} : AttentionFollows (reqCursorSet p place s).after := by
  unfold Machine.reqCursorSet
  split <;> exact h

theorem reqCampaignReset {consumer : Nat} : AttentionFollows (reqCampaignReset consumer s).after := by
  unfold Machine.reqCampaignReset
  split <;> exact h

theorem reqClearCounts : AttentionFollows (reqClearCounts s).after := by
  unfold Machine.reqClearCounts
  split
  · exact h
  · dsimp only [AttentionFollows, accept_after, clearCounts]
    exact h

theorem reqProveStart {p : Port} {channel duration : Nat} :
    AttentionFollows (reqProveStart p channel duration s).after := by
  unfold Machine.reqProveStart
  split
  · split
    · split
      · exact h
      · dsimp only
        split <;> exact h
    · exact h
  · exact h

theorem reqProveStop : AttentionFollows (reqProveStop s).after := by
  unfold Machine.reqProveStop
  split
  · exact h
  · exact h.endRun

theorem reqProveApply {p : Port} {channel : Nat} : AttentionFollows (reqProveApply p channel s).after := by
  unfold Machine.reqProveApply
  split
  · dsimp only
    split
    · exact h
    · split
      · split
        · exact h
        · split <;> exact h
      · split <;> exact h
  · exact h

theorem reqLock {p : Port} {region mode : Nat} : AttentionFollows (reqLock p region mode s).after := by
  unfold Machine.reqLock
  split
  · split
    · exact h
    · dsimp only
      split
      · exact h
      · exact h
      · split
        · exact h
        · split <;> exact h
  · exact h

theorem reqLockCancel {p : Port} : AttentionFollows (reqLockCancel p s).after := by
  unfold Machine.reqLockCancel
  split <;> exact h

theorem reqStageWrite {p : Port} {region field : Nat} {value : StageValue} :
    AttentionFollows (reqStageWrite p region field value s).after := by
  unfold Machine.reqStageWrite
  split
  · dsimp only
    split
    · exact h
    · split
      · exact h
      · split
        · exact h
        · split <;> exact h
  · exact h

theorem reqConfigRead {p : Port} {region which : Nat} : AttentionFollows (reqConfigRead p region which s).after := by
  unfold Machine.reqConfigRead
  split
  · split
    · exact h
    · dsimp only
      split
      · exact h
      · split <;> exact h
  · exact h

theorem reqRelease {p : Port} {action : Nat} : AttentionFollows (reqRelease p action s).after := by
  unfold Machine.reqRelease
  split
  · exact h
  · split
    · exact h
    · split
      · exact h.endHold
      · split
        · exact h.endHold
        · split
          · exact h.endHold
          · exact h.adopt.endHold.applyTimeout

theorem reqAlertRead {p : Port} : AttentionFollows (reqAlertRead p s).after := by
  unfold Machine.reqAlertRead
  dsimp only
  split
  · exact h
  · dsimp only [accept_after]
    split
    · exact h
    · exact h.setAlerts

theorem reqAlertClear {p : Port} {source : Nat} : AttentionFollows (reqAlertClear p source s).after := by
  unfold Machine.reqAlertClear
  split
  · exact h.setAlerts
  · exact h

theorem reqAlertMask {p : Port} {levels : Nat} : AttentionFollows (reqAlertMask p levels s).after := by
  unfold Machine.reqAlertMask
  split
  · exact h.setAlerts
  · exact h

theorem reqSave : AttentionFollows (reqSave s).after := by
  unfold Machine.reqSave
  split <;> exact h

/-- Every request keeps the attention outputs following. -/
theorem request {p : Port} {r : Request} : AttentionFollows (requestOp p r s).after := by
  cases r with
  | status => exact h
  | meterPost c v t => exact h.reqMeterPost
  | channelRead c => exact (reqChannelRead_after c s).symm ▸ h
  | channelRebase c => exact h.reqChannelRebase
  | setSwitch n x => exact h.reqSetSwitch
  | slotRead n => exact (reqSlotRead_after n s).symm ▸ h
  | liveRead n => exact (reqLiveRead_after n s).symm ▸ h
  | chargePost f n b x => exact h.reqChargePost
  | furnaceHold f => exact furnaceRequest_after f _ _ _ _ h fun _ => h
  | furnaceResume f => exact furnaceRequest_after f _ _ _ _ h fun _ => h
  | furnaceShutdown f => exact furnaceRequest_after f _ _ _ _ h fun _ => h
  | furnaceWarm f => exact furnaceRequest_after f _ _ _ _ h fun _ => h
  | queueRead f n => exact (reqQueueRead_after f n s).symm ▸ h
  | jobStart l j g n a => exact h.reqJobStart
  | jobReady l => exact lineRequest_after l _ _ _ h fun _ _ _ => h
  | tallyPost l j c x => exact h.reqTallyPost
  | lineHold l => exact lineRequest_after l _ _ _ h fun _ _ _ => h
  | lineResume l => exact h.reqLineResume
  | lineShutdown l => exact lineRequest_after l _ _ _ h fun _ _ _ => h
  | lineWarm l => exact lineRequest_after l _ _ _ h fun _ _ _ => h
  | stateRead l => exact (reqStateRead_after l s).symm ▸ h
  | timeSet n => exact h.reqTimeSet
  | intervalRead => exact h.reqIntervalRead
  | intervalReadAt n => exact (reqIntervalReadAt_after n s).symm ▸ h
  | cursorSet n => exact h.reqCursorSet
  | totalsRead n => exact (reqTotalsRead_after n s).symm ▸ h
  | campaignReset n => exact h.reqCampaignReset
  | clearCounts => exact h.reqClearCounts
  | proveStart c d => exact h.reqProveStart
  | proveStop => exact h.reqProveStop
  | proveApply c => exact h.reqProveApply
  | lock r m => exact h.reqLock
  | lockCancel => exact h.reqLockCancel
  | stageWrite r n v => exact h.reqStageWrite
  | configRead r w => exact h.reqConfigRead
  | release a => exact h.reqRelease
  | alertRead => exact h.reqAlertRead
  | alertClear a => exact h.reqAlertClear
  | alertMask a => exact h.reqAlertMask
  | save => exact h.reqSave

omit h in
/-- The rows of the link write ports beside their attention outputs. -/
theorem link : LinkKeeps AttentionFollows where
  port _ _ _ hr h := h.setPort hr
  request _ _ _ h := h.request
  drop _ _ h := h.dropLocks

end AttentionFollows

end Sys2Proof.Machine
end

section
/-! PROOF. O52: the events, and with them every step, keep the attention outputs following. -/

namespace Sys2Proof.Machine

namespace AttentionFollows

/-! ## Events -/

section
variable {s t : State} (h : AttentionFollows s)
include h

theorem plantTimeTick (he : exec .plantTimeTick s = .next t) : AttentionFollows t := by
  obtain rfl := Host.Outcome.next.inj he
  split
  · dsimp only
    split
    · exact h
    · exact wrapPlantTime (h.of_same rfl rfl)
  · exact h

theorem plantTimeWrap (he : exec .plantTimeWrap s = .next t) : AttentionFollows t := by
  obtain rfl := Host.Outcome.next.inj he
  split
  · exact wrapPlantTime (h.of_same rfl rfl)
  · exact h

theorem intervalExpiry (he : exec .intervalExpiry s = .next t) : AttentionFollows t := by
  obtain rfl := Host.Outcome.next.inj he
  split
  · split
    · exact h.setInterval
    · exact h.beginClose
  · exact h

theorem presenceChange {sl : Slot} {a b : Bool} (he : exec (.presenceChange sl a b) s = .next t) :
    AttentionFollows t := by
  obtain rfl := Host.Outcome.next.inj he
  dsimp only
  split
  · exact h
  · split
    · exact h.setSlot.leaveReady
    · exact h

theorem settleTimerExpiry {sl : Slot} (he : exec (.settleTimerExpiry sl) s = .next t) : AttentionFollows t := by
  obtain rfl := Host.Outcome.next.inj he
  have hs : AttentionFollows (unsettled sl s) := h
  dsimp only
  split
  · split
    · exact hs.enterReady
    · exact hs.enterReady
    · exact hs.enterReady
    · exact raised
    · exact h
    · split
      · exact raised
      · exact h
  · exact h

theorem partialTimerExpiry {sl : Slot} (he : exec (.partialTimerExpiry sl) s = .next t) : AttentionFollows t := by
  obtain rfl := Host.Outcome.next.inj he
  dsimp only
  split
  · split
    · exact raised
    · exact h
  · exact h

theorem pulseSample (he : exec .pulseSample s = .next t) : AttentionFollows t := by
  obtain rfl := Host.Outcome.next.inj he
  refine forEach (s := { s.reach s.sampleDue with sampleDue := s.sampleDue + 1000 }) h fun c u hu => ?_
  split
  · exact hu.samplePulse
  · exact hu

theorem pollReply {poll : PollRef} {ok : Bool} {address value : Nat}
    (he : exec (.pollReply poll ok address value) s = .next t) : AttentionFollows t := by
  obtain rfl := Host.Outcome.next.inj he
  dsimp only
  split
  · exact h
  · split
    · split
      · exact h.setSlot.setPosition.takeTotal
      · exact h.setSlot.failPoll
    · exact h

theorem replyLimitExpiry {sl : Slot} (he : exec (.replyLimitExpiry sl) s = .next t) : AttentionFollows t := by
  obtain rfl := Host.Outcome.next.inj he
  split
  · exact h
  · split
    · exact h.setSlot.failPoll
    · exact h

theorem proveExpiry (he : exec .proveExpiry s = .next t) : AttentionFollows t := by
  obtain rfl := Host.Outcome.next.inj he
  split
  · exact h
  · dsimp only
    split
    · exact h.endRun
    · exact h

theorem configLoadDone {answered : Bool} (he : exec (.configLoadDone answered) s = .next t) : AttentionFollows t := by
  obtain rfl := Host.Outcome.next.inj he
  have loaded : AttentionFollows (loadedState answered s) := by
    unfold loadedState
    split
    · exact h.of_raisedJust (adoptWhole_raised _ s)
    · exact raised
  split
  · exact loaded
  · exact h

theorem saveWriteAcknowledged (he : exec .saveWriteAcknowledged s = .next t) : AttentionFollows t := by
  obtain rfl := Host.Outcome.next.inj he
  split
  · exact h
  · dsimp only
    split <;> exact h

theorem saveAccessTimeout (he : exec .saveAccessTimeout s = .next t) : AttentionFollows t := by
  obtain rfl := Host.Outcome.next.inj he
  split
  · exact h
  · split
    · exact raised
    · exact h

omit h in
/-- A hardware reset clears the pending sets and the outputs together (R170, R182). -/
theorem resetOf (s : State) : AttentionFollows (resetOf s) :=
  fun p => by
  match p with
  | 0 | 1 | 2 | 3 => rfl

/-- Every event keeps the attention outputs following. -/
theorem event {i : Instr} (he : exec i s = .next t) (hr : i.asRequest = none) (hl : onLink i = false) :
    AttentionFollows t := by
  cases i
  case hardwareReset =>
    obtain rfl := Host.Outcome.next.inj ((exec_hardwareReset s).symm.trans he)
    exact resetOf s
  case configLoadDone => exact h.configLoadDone he
  case plantTimeTick => exact h.plantTimeTick he
  case intervalExpiry => exact h.intervalExpiry he
  case plantTimeWrap => exact h.plantTimeWrap he
  case closingPoolSettle c =>
    obtain rfl := Host.Outcome.next.inj he
    split
    · exact h
    · rw [settleClosingPool_frame]
      exact h
  case closeEnd =>
    obtain rfl := Host.Outcome.next.inj he
    split
    · exact h
    · exact h.endClose
  case presenceChange => exact h.presenceChange he
  case codeLineChange =>
    obtain rfl := Host.Outcome.next.inj he
    dsimp only
    split <;> exact h
  case settleTimerExpiry => exact h.settleTimerExpiry he
  case partialTimerExpiry => exact h.partialTimerExpiry he
  case pulseInput =>
    obtain rfl := Host.Outcome.next.inj he
    dsimp only
    split <;> exact h
  case pulseSample => exact h.pulseSample he
  case pollStart =>
    obtain rfl := Host.Outcome.next.inj he
    split <;> exact h
  case pollReply => exact h.pollReply he
  case replyLimitExpiry => exact h.replyLimitExpiry he
  case staleTimeExpiry c =>
    obtain rfl := Host.Outcome.next.inj he
    split
    · exact raised
    · exact h
  case referencePulse =>
    obtain rfl := Host.Outcome.next.inj he
    split <;> exact h
  case proveExpiry => exact h.proveExpiry he
  case holdTimerExpiry l =>
    obtain rfl := Host.Outcome.next.inj he
    dsimp only
    split
    · exact raised
    · exact h
  case lockExpiry r =>
    obtain rfl := Host.Outcome.next.inj he
    exact h.expireIfSilent
  case saveWriteAcknowledged => exact h.saveWriteAcknowledged he
  case saveAccessTimeout => exact h.saveAccessTimeout he
  all_goals revert hr hl; exact nofun

end

end AttentionFollows

/-- Settles O52: every command keeps the outputs following, and neither the queue nor the own clock is looked at. -/
theorem stepKeepsAttention : Obligations.StepKeepsAttention := by
  intro s t h ht
  refine step_keeps (P := AttentionFollows) (fun _ _ h => h) (fun _ _ h => h) (fun i s t h he => ?_) h ht
  exact AttentionFollows.link.exec (h.event he) h he

end Sys2Proof.Machine
end

section
/-! PROOF. O17: what raising a source latches, and on which ports. -/

namespace Sys2Proof.Machine

/-- A latched source joins its object, once and in order; every other source and the mask stand (R182). -/
theorem latch_latches (a : AlertRecord) (k : Fin 19) (obj : Option Nat) :
    (a.latch k obj).mask = a.mask ∧ (∀ j : Fin 19, j ≠ k → (a.latch k obj).pending[j] = a.pending[j]) ∧
      ∃ set, (a.latch k obj).pending[k] = some set ∧ (∀ n, n ∈ set ↔ obj = some n ∨ n ∈ (a.pending[k]).getD []) ∧
        (((a.pending[k]).getD []).Pairwise (· < ·) → set.Pairwise (· < ·)) := by
  refine ⟨rfl, fun j hj => ?_, ?_⟩
  · rw [latch_pending, if_neg (Ne.symm hj)]
  · rw [latch_pending, if_pos rfl]
    cases obj with
    | none => exact ⟨_, rfl, fun n => by simp, id⟩
    | some m => exact ⟨_, rfl, fun n => by simp [joinObject_mem, eq_comm], joinObject_pairwise m _⟩

section
variable (p : Port) (src : AlertSource) (obj : Option Nat) (s : State)

theorem raiseTo_alerts (q : Port) :
    (raiseTo p src obj s).alerts[q] = if p = q then s.alerts[p].latch src.code obj else s.alerts[q] :=
  setAlerts_alerts ..

theorem raiseTo_port (q : Port) :
    (raiseTo p src obj s).ports[q] =
      if p = q then { s.ports[p] with attention := (s.alerts[p].latch src.code obj).wantsAttention }
      else s.ports[q] :=
  setAlerts_port ..

theorem raise_alerts_ports_only :
    ({ raise src obj s with alerts := s.alerts, ports := s.ports } : State) = s := by
  rw [raise_frame]

end

/-- Settles O17: raising for all ports is raising for each, and for one port it latches on that port alone. -/
theorem raiseLatchesOnEveryPort : Obligations.RaiseLatchesOnEveryPort := by
  refine ⟨fun src obj s _ _ => ⟨⟨raise_alerts_ports_only src obj s, fun p => ?every⟩, fun p => ⟨?latched, ?follows⟩⟩,
    fun src obj s p _ => ⟨⟨rfl, fun q => ?one⟩, ?latchedOne, ?followsOne, fun q hq => ⟨?alert, ?port⟩⟩, rfl, rfl⟩
  case every => simp only [raise_ports, raise_alerts, ite_self]
  case latched =>
    rw [raise_alerts]
    exact latch_latches ..
  case follows => rw [raise_ports, raise_alerts]
  case one =>
    rw [raiseTo_port, raiseTo_alerts]
    by_cases hq : p = q
    · subst hq
      simp only [if_true, ite_self]
    · simp only [if_neg hq, if_true]
  case latchedOne =>
    rw [raiseTo_alerts, if_pos rfl]
    exact latch_latches ..
  case followsOne => rw [raiseTo_port, raiseTo_alerts, if_pos rfl, if_pos rfl]
  case alert => rw [raiseTo_alerts, if_neg (Ne.symm hq)]
  case port => rw [raiseTo_port, if_neg (Ne.symm hq)]

end Sys2Proof.Machine
end

section
/-! PROOF. O6, O7 and O9: what an octet, a gap, the end of a reply and a line at mark do to a port, and the requests in
STARTING. -/

namespace Sys2Proof.Machine

/-! ## Requests in STARTING (R176, R187) -/

/-- Settles O9: a request row is the taking of its request, which the STARTING check refuses. -/
theorem startingRefusesAllButStatus : Obligations.StartingRefusesAllButStatus := by
  intro i p tag r s hi hr hs
  rw [exec_request hi, serve_starting p tag r _ hs hr]

/-! ## The record of a port -/

theorem setPort_self (s : State) (p : Port) : s.setPort p s.ports[p] = s := by
  unfold State.setPort
  rw [set_get_self]

theorem setPort_setPort (s : State) (p : Port) (r r' : PortRecord) : (s.setPort p r).setPort p r' = s.setPort p r' := by
  simp [State.setPort]

theorem setPort_port (s : State) (p : Port) (r : PortRecord) : (s.setPort p r).ports[p] = r := get_set_self ..

theorem setReceive_port (p : Port) (r : ReceiveState) (s : State) :
    (setReceive p r s).ports[p] = { s.ports[p] with receive := r } := get_set_self ..

theorem setReceive_setReceive (p : Port) (r r' : ReceiveState) (s : State) :
    setReceive p r' (setReceive p r s) = setReceive p r' s := by
  unfold setReceive
  rw [setPort_port, setPort_setPort]

section
variable {p : Port} {s : State}

/-- A receive state that the port is in already. -/
theorem setReceive_self {r : ReceiveState} (h : s.ports[p].receive = r) : setReceive p r s = s := by
  subst h
  exact setPort_self s p

/-! ## Reception (R171, R174, R175) -/

theorem exec_octetReceived_fault (o : Octet) : exec (.octetReceived p o false) s = .next s :=
  congrArg Host.Outcome.next (if_pos (.inl rfl))

/-- An octet without a fault is not lost on a line that is at mark. -/
theorem not_lost (h : s.ports[p].atSpace = false) : ¬ (true = false ∨ s.ports[p].atSpace = true) := by
  simp [h, -Fin.getElem_fin]

theorem exec_octetReceived_hunting (o : Octet) (h : s.ports[p].atSpace = false) (hr : s.ports[p].receive = .hunting) :
    exec (.octetReceived p o true) s = .next (huntOctet p o s) := by
  refine congrArg Host.Outcome.next ((if_neg (not_lost h)).trans ?_)
  rw [hr]

theorem exec_octetReceived_receiving {got : List Octet} {last : Nat} (o : Octet) (h : s.ports[p].atSpace = false)
    (hr : s.ports[p].receive = .receiving got last) (hc : s.clock ≤ last + 5) :
    exec (.octetReceived p o true) s = .next (gatherOctet p (got ++ [o]) s) := by
  refine congrArg Host.Outcome.next ((if_neg (not_lost h)).trans ?_)
  rw [hr]
  exact if_neg (by omega)

theorem huntOctet_start : huntOctet p 167 s = setReceive p (.receiving [167] s.clock) s := rfl

theorem huntOctet_other {o : Octet} (hr : s.ports[p].receive = .hunting) (ho : o ≠ 167) : huntOctet p o s = s := by
  rw [huntOctet, if_neg ho, setReceive_self hr]

theorem gatherOctet_gathering {got : List Octet} (h : progress got = .gathering) :
    gatherOctet p got s = setReceive p (.receiving got s.clock) s := by
  rw [gatherOctet, h]

theorem gatherOctet_tooLong {got : List Octet} (h : progress got = .tooLong) :
    gatherOctet p got s = setReceive p .hunting s := by
  rw [gatherOctet, h]

theorem gatherOctet_unchecked {got : List Octet} (h : progress got = .complete) (hf : checkedFrame got = none) :
    gatherOctet p got s = setReceive p .hunting s := by
  simp only [gatherOctet, h, hf]

theorem gatherOctet_checked {got : List Octet} {fr : Frame} (h : progress got = .complete)
    (hf : checkedFrame got = some fr) : gatherOctet p got s = arrive p fr (setReceive p .hunting s) := by
  simp only [gatherOctet, h, hf]

theorem arrive_idle {fr : Frame} (h : s.ports[p].service = none) : arrive p fr s = serviceFrame p fr s := by
  rw [arrive, h]
  rfl

theorem arrive_busy {fr : Frame} (h : s.ports[p].service ≠ none) (hh : s.ports[p].held = none) :
    arrive p fr s = s.setPort p { s.ports[p] with held := some fr } := by
  simp [arrive, h, hh, -Fin.getElem_fin]

theorem arrive_full {fr : Frame} (h : s.ports[p].service ≠ none) (hh : s.ports[p].held ≠ none) :
    arrive p fr s = s := by
  simp [arrive, h, hh, -Fin.getElem_fin]

end

/-- Settles O6: the receive state looks at the octet, and a good frame arrives. -/
theorem octetReceivedEffects : Obligations.OctetReceivedEffects := by
  refine fun p o s hm => ⟨exec_octetReceived_fault o, fun hr ho => ?start, fun hr ho => ?other, fun got last hr hc =>
    ⟨fun hp => ?gathering, fun hp => ?tooLong, fun hp hf => ?unchecked, fun fr hp hf =>
      ⟨fun hs => ?taken, fun hs hh => ?held, fun hs hh => ?discarded⟩⟩⟩
  case start => rw [exec_octetReceived_hunting o hm hr, ho, huntOctet_start]
  case other => rw [exec_octetReceived_hunting o hm hr, huntOctet_other hr ho]
  all_goals rw [exec_octetReceived_receiving o hm hr hc]
  case gathering => rw [gatherOctet_gathering hp]
  case tooLong => rw [gatherOctet_tooLong hp]
  case unchecked => rw [gatherOctet_unchecked hp hf]
  all_goals
    rw [gatherOctet_checked hp hf]
    have port := setReceive_port p .hunting s
  case taken => rw [arrive_idle (by rwa [port])]
  case held =>
    rw [arrive_busy (by rwa [port]) (by rwa [port]), port, setReceive, setPort_setPort]
  case discarded => rw [arrive_full (by rwa [port]) (by rwa [port])]

/-! ## Gaps, replies and marks (R171, R172, R175) -/

section
variable {p : Port} {s : State}

theorem exec_gapExpiry {got : List Octet} {last : Nat} (h : s.ports[p].receive = .receiving got last) :
    exec (.gapExpiry p) s = .next (if last + 5 ≤ s.clock then setReceive p .hunting s else s) := by
  refine congrArg Host.Outcome.next ?_
  rw [h]

theorem exec_gapExpiry_hunting (h : s.ports[p].receive = .hunting) : exec (.gapExpiry p) s = .next s := by
  refine congrArg Host.Outcome.next ?_
  rw [h]

section
variable (h : s.ports[p].service ≠ none)
include h

theorem exec_replySent (hh : s.ports[p].held = none) :
    exec (.replySent p) s = .next (s.setPort p { s.ports[p] with service := none }) := by
  refine congrArg Host.Outcome.next ((if_neg (by simpa [-Fin.getElem_fin] using h)).trans ?_)
  rw [hh]
  dsimp only
  rw [← hh]

/-- The end of a reply brings the held request into service. -/
theorem exec_replySent_held {fr : Frame} (hh : s.ports[p].held = some fr) :
    exec (.replySent p) s =
      .next (serviceFrame p fr (s.setPort p { s.ports[p] with service := none, held := none })) := by
  refine congrArg Host.Outcome.next ((if_neg (by simpa [-Fin.getElem_fin] using h)).trans ?_)
  rw [hh]

end

end

/-- Settles O7. -/
theorem gapReplyAndMark : Obligations.GapReplyAndMark := by
  refine fun p s => ⟨fun got last hr => ⟨fun hl => ?expired, fun hl => ?early⟩, exec_gapExpiry_hunting,
    exec_replySent, fun _ hs hh => exec_replySent_held hs hh, rfl⟩
  case expired =>
    rw [exec_gapExpiry hr, if_pos hl]
    rfl
  case early => rw [exec_gapExpiry hr, if_neg (by omega)]

end Sys2Proof.Machine
end

section
/-! PROOF. O4: the payload of a request's frame spells the request, and its row is the taking of its frame. -/

namespace Sys2Proof.Machine

/-! ## Numbers in octets (R173, R178) -/

@[simp] theorem octets_one (n : Nat) : octets 1 n = [BitVec.ofNat 8 n] := by
  simp [octets]

theorem octets_two (n : Nat) : octets 2 n = [BitVec.ofNat 8 (n / 256), BitVec.ofNat 8 n] := by
  simp [octets]

/-- Numbers that their octets can hold are cut out of them again. -/
theorem numbers_octets (ns : List (Nat × Nat)) (h : ∀ wn ∈ ns, wn.2 < 256 ^ wn.1) :
    numbers (ns.map Prod.fst) (ns.flatMap fun wn => octets wn.1 wn.2) = ns.map Prod.snd := by
  induction ns with
  | nil => rfl
  | cons wn ns ih =>
    obtain ⟨hwn, hns⟩ := List.forall_mem_cons.mp h
    simp only [List.map_cons, List.flatMap_cons, numbers]
    rw [List.take_left' (octets_length ..), List.drop_left' (octets_length ..), ih hns, number_octets_of_lt hwn]

theorem flatMap_octets_length (ns : List (Nat × Nat)) :
    (ns.flatMap fun wn => octets wn.1 wn.2).length = (ns.map Prod.fst).sum := by
  simp [List.length_flatMap]

/-- Two's complement spells a number that 16 bits with a sign can hold. -/
theorem signedNumber_signedOctets {t : Int} (hlow : -32768 ≤ t) (hhigh : t ≤ 32767) :
    signedNumber (signedOctets 2 t) = t := by
  have hn : number (signedOctets 2 t) = (t % 65536).toNat :=
    number_octets_of_lt (by norm_num; omega)
  unfold signedNumber
  rw [hn, signedOctets_length]
  norm_num
  split <;> omega

/-! ## Requests of fixed length -/

/-- The requests whose payload is numbers in fixed counts of octets. -/
def hasFixedLength : Request → Bool
  | .meterPost .. | .stageWrite .. => false
  | _ => true

theorem requestCode_lt (r : Request) : requestCode r < 256 := by
  unfold requestCode
  split <;> decide

theorem requestCode_eq_one (r : Request) : requestCode r = 1 ↔ r = .status := by
  cases r <;> simp [requestCode]

theorem requestFrame_code (tag : Octet) (r : Request) : (requestFrame tag r).code.toNat = requestCode r :=
  Nat.mod_eq_of_lt (requestCode_lt r)

section
variable {r : Request} (h : hasFixedLength r = true)
include h

theorem fixedSizes_requestCode : fixedSizes (requestCode r) = some ((requestNumbers r).map Prod.fst) := by
  cases r
  case meterPost => exact absurd h Bool.false_ne_true
  case stageWrite => exact absurd h Bool.false_ne_true
  all_goals rfl

theorem fixedRequest_requestNumbers : fixedRequest (requestCode r) ((requestNumbers r).map Prod.snd) = some r := by
  cases r
  case meterPost => exact absurd h Bool.false_ne_true
  case stageWrite => exact absurd h Bool.false_ne_true
  all_goals rfl

theorem requestPayload_fixed : requestPayload r = (requestNumbers r).flatMap fun wn => octets wn.1 wn.2 := by
  cases r
  case meterPost => exact absurd h Bool.false_ne_true
  case stageWrite => exact absurd h Bool.false_ne_true
  all_goals exact List.append_nil _

end

section
variable {code : Nat} {ws : List Nat} {payload : List Octet} (hs : fixedSizes code = some ws)
include hs

/-- A command of fixed length is neither METER_POST nor STAGE_WRITE. -/
theorem ne_of_fixedSizes : code ≠ 16 ∧ code ≠ 98 := by
  constructor <;> rintro rfl <;> cases hs

theorem parse_fixed {r : Request} (hl : payload.length = ws.sum)
    (hr : fixedRequest code (numbers ws payload) = some r) : parse code payload = .ok r := by
  obtain ⟨hm, hw⟩ := ne_of_fixedSizes hs
  simp only [parse, if_neg hm, if_neg hw, hs, if_pos hl, hr]

theorem parse_fixed_badLength (hl : payload.length ≠ ws.sum) : parse code payload = .badLength ws.sum := by
  obtain ⟨hm, hw⟩ := ne_of_fixedSizes hs
  simp only [parse, if_neg hm, if_neg hw, hs, if_neg hl]

end

/-! ## METER_POST and the values of STAGE_WRITE -/

theorem parse_meterPost (payload : List Octet) : parse 16 payload = parseMeterPost payload := rfl

theorem parse_stageWrite (payload : List Octet) : parse 98 payload = parseStageWrite payload := rfl

theorem parseMeterPost_spelled {c v : Nat} {tag : Option Nat} (hc : c < 256) (hv : v < 256 ^ 6)
    (ht : ∀ t, tag = some t → t < 256) :
    parseMeterPost (octets 1 c ++ (octets 6 v ++ optional (octets 1) tag)) = .ok (.meterPost c v tag) := by
  have channel : number (octets 1 c) = c := number_octets_of_lt hc
  have value : number (octets 6 v) = v := number_octets_of_lt hv
  have rest : (octets 1 c ++ (octets 6 v ++ optional (octets 1) tag)).drop 7 = optional (octets 1) tag := by
    rw [← List.append_assoc, List.drop_left' (by simp)]
  unfold parseMeterPost
  rw [rest, List.take_left' (octets_length ..), List.drop_left' (octets_length ..),
    List.take_left' (octets_length ..), channel, value]
  cases tag with
  | none => rfl
  | some t => simp [Nat.mod_eq_of_lt (ht t rfl)]

theorem parseEntries_spelled {l : List (Nat × Nat)} (h : ∀ e ∈ l, e.1 < 256 ∧ e.2 < 65536) :
    parseEntries (l.flatMap fun e => octets 1 e.1 ++ octets 2 e.2) = l := by
  induction l with
  | nil => rfl
  | cons e l ih =>
    obtain ⟨⟨hc, hw⟩, hl⟩ := List.forall_mem_cons.mp h
    have weight : number [BitVec.ofNat 8 (e.2 / 256), BitVec.ofNat 8 e.2] = e.2 :=
      octets_two e.2 ▸ number_octets_of_lt hw
    rw [List.flatMap_cons, octets_one, octets_two]
    simp only [List.cons_append, List.nil_append, parseEntries, weight, ih hl, BitVec.toNat_ofNat]
    rw [Nat.mod_eq_of_lt hc]

theorem ranks_spelled {l : List Nat} (h : ∀ p ∈ l, p < 256) : (l.flatMap (octets 1)).map BitVec.toNat = l := by
  induction l with
  | nil => rfl
  | cons p l ih =>
    obtain ⟨hp, hl⟩ := List.forall_mem_cons.mp h
    simp [ih hl, Nat.mod_eq_of_lt hp]

theorem parseValue_trim {t : Int} (hlow : -32768 ≤ t) (hhigh : t ≤ 32767) :
    parseValue .trim (signedOctets 2 t) = some (some (.trim t)) := by
  have spelled := signedNumber_signedOctets hlow hhigh
  rw [signedOctets, octets_two] at spelled ⊢
  rw [parseValue, spelled]

theorem parseValue_entries {l : List (Nat × Nat)} (hl : l.length ≤ 6) (h : ∀ e ∈ l, e.1 < 256 ∧ e.2 < 65536) :
    parseValue .entries (listOf (fun e => octets 1 e.1 ++ octets 2 e.2) l) = some (some (.entries l)) := by
  have count : (BitVec.ofNat 8 l.length).toNat = l.length := Nat.mod_eq_of_lt (by omega)
  have items : (l.flatMap fun e => octets 1 e.1 ++ octets 2 e.2).length = 3 * l.length := by
    simp [List.length_flatMap, Nat.mul_comm]
  rw [listOf, octets_one, List.singleton_append, parseValue, count, if_neg (by omega), if_pos items,
    parseEntries_spelled h]

theorem parseValue_ranks {l : List Nat} (hl : l.length = 4) (h : ∀ p ∈ l, p < 256) :
    parseValue .ranks (l.flatMap (octets 1)) = some (some (.ranks l)) := by
  have length : (l.flatMap (octets 1)).length = 4 := by simpa [List.length_flatMap] using hl
  rw [parseValue, if_pos length, ranks_spelled h]

theorem parseValue_text {cs : List Octet} (h : cs.length ≤ 16) :
    parseValue .text (octets 1 cs.length ++ cs) = some (some (.text cs)) := by
  have count : (BitVec.ofNat 8 cs.length).toNat = cs.length := Nat.mod_eq_of_lt (by omega)
  rw [octets_one, List.singleton_append, parseValue, count, if_neg (by omega), if_pos rfl]

/-- A value that the coding of a form can spell is read back from its octets. -/
theorem parseValue_valueOctets {f : FieldForm} {v : StageValue} (h : v.spells f = true) :
    parseValue f (valueOctets f v) = some (some v) := by
  match f, v, h with
  | .flag, .flag true, _ | .flag, .flag false, _ => rfl
  | .number w _ _, .num n, h =>
    have hn : n < 256 ^ w := of_decide_eq_true h
    simp [valueOctets, parseValue, number_octets_of_lt hn]
  | .trim, .trim t, h =>
    obtain ⟨hlow, hhigh⟩ := of_decide_eq_true h
    exact parseValue_trim hlow hhigh
  | .entries, .entries l, h =>
    obtain ⟨hl, he⟩ := (Bool.and_eq_true ..).mp h
    exact parseValue_entries (of_decide_eq_true hl) fun e hm => of_decide_eq_true (List.all_eq_true.mp he e hm)
  | .ranks, .ranks l, h =>
    obtain ⟨hl, hp⟩ := (Bool.and_eq_true ..).mp h
    exact parseValue_ranks (of_decide_eq_true hl) fun p hm => of_decide_eq_true (List.all_eq_true.mp hp p hm)
  | .text, .text cs, h => exact parseValue_text (of_decide_eq_true h)

/-! ## Requests read back from their frames (R176) -/

theorem namedForm_lt {region field : Nat} {f : FieldForm} (h : namedForm region field = some f) : region < 53 := by
  by_contra hn
  rw [namedForm, dif_neg hn] at h
  cases h

theorem parseStageWrite_spelled {region field : Nat} {f : FieldForm} {v : StageValue} (hf : field < 256)
    (hform : namedForm region field = some f) (hv : v.spells f = true) :
    parseStageWrite (octets 1 region ++ (octets 1 field ++ valueOctets f v)) = .ok (.stageWrite region field v) := by
  have hr := namedForm_lt hform
  have regionNo : (BitVec.ofNat 8 region).toNat = region := Nat.mod_eq_of_lt (by omega)
  have fieldNo : (BitVec.ofNat 8 field).toNat = field := Nat.mod_eq_of_lt hf
  simp only [octets_one, List.cons_append, List.nil_append, parseStageWrite, regionNo, fieldNo, hform,
    parseValue_valueOctets hv, if_neg (show ¬ 52 < region by omega)]

/-- The numbers of a well-formed request fit their octets. -/
theorem wf_numbers {r : Request} (h : r.wf = true) : ∀ wn ∈ requestNumbers r, wn.2 < 256 ^ wn.1 := by
  obtain ⟨hn, -⟩ := (Bool.and_eq_true ..).mp h
  exact fun wn hm => of_decide_eq_true (List.all_eq_true.mp hn wn hm)

/-- A well-formed request is read back from its payload. -/
theorem parse_requestPayload {r : Request} (h : r.wf = true) : parse (requestCode r) (requestPayload r) = .ok r := by
  have hn := wf_numbers h
  obtain ⟨-, hrest⟩ := (Bool.and_eq_true ..).mp h
  cases hr : hasFixedLength r with
  | true =>
    rw [requestPayload_fixed hr]
    refine parse_fixed (fixedSizes_requestCode hr) (flatMap_octets_length _) ?_
    rw [numbers_octets _ hn, fixedRequest_requestNumbers hr]
  | false =>
    cases r
    case meterPost c v tag =>
      have hc : c < 256 := hn (1, c) (by simp [requestNumbers])
      have hv : v < 256 ^ 6 := hn (6, v) (by simp [requestNumbers])
      refine (parse_meterPost _).trans ((congrArg parseMeterPost ?_).trans
        (parseMeterPost_spelled hc hv fun t ht => ?_))
      · simp [requestPayload, requestNumbers]
      · subst ht
        exact of_decide_eq_true hrest
    case stageWrite region field v =>
      have hf : field < 256 := hn (1, field) (by simp [requestNumbers])
      obtain ⟨f, hform, hv⟩ := Option.any_eq_true _ _ |>.mp hrest
      refine (parse_stageWrite _).trans ((congrArg parseStageWrite ?_).trans
        (parseStageWrite_spelled hf hform hv))
      simp [requestPayload, requestNumbers, hform]
    all_goals exact absurd hr Bool.false_ne_true.symm

/-! ## Frames taken into service (R175, R176) -/

section
variable {p : Port} {fr : Frame} {s : State}

theorem takeFrame_badCommand (h : parse fr.code.toNat fr.payload = .badCommand) :
    takeFrame p fr s = refuse s .badCommand [fr.code] := by
  rw [takeFrame, h]

theorem takeFrame_badLength {n : Nat} (hs : s.phase = .running) (h : parse fr.code.toNat fr.payload = .badLength n) :
    takeFrame p fr s = refuse s .badLength (octets 2 fr.payload.length ++ octets 2 n) := by
  rw [takeFrame, h]
  exact if_neg (by simp [hs])

theorem takeFrame_ok {r : Request} (h : parse fr.code.toNat fr.payload = .ok r) :
    takeFrame p fr s = if s.phase = .starting ∧ fr.code ≠ 1 then refuse s .starting else requestOp p r s := by
  rw [takeFrame, h]

end

/-- A row that is a request is well-formed where the request is. -/
theorem wf_of_asRequest {i : Instr} {p : Port} {tag : Octet} {r : Request} (h : i.asRequest = some (p, tag, r)) :
    i.wf = r.wf := by
  cases i
  case pollReply => cases h
  case badCommand => cases h
  all_goals simp only [Instr.wf, h]

/-- A well-formed request is taken as its frame. -/
theorem serviceFrame_requestFrame {r : Request} (h : r.wf = true) (p : Port) (tag : Octet) (s : State) :
    serviceFrame p (requestFrame tag r) s = serve p tag r (requestOp p r) s := by
  have parsed : parse (requestFrame tag r).code.toNat (requestFrame tag r).payload = .ok r := by
    rw [requestFrame_code]
    exact parse_requestPayload h
  have status : (requestFrame tag r).code ≠ 1 ↔ r ≠ .status := by
    refine not_congr ?_
    rw [← requestCode_eq_one, ← requestFrame_code tag, ← BitVec.toNat_inj]
    rfl
  simp only [serviceFrame, serve, gate, takeFrame_ok parsed, status]

/-- Settles O4. -/
theorem frameSpellsItsRequest : Obligations.FrameSpellsItsRequest := by
  refine ⟨fun r hr => ?_, fun i p tag r s hi hwf => ?_⟩
  · rw [requestFrame_code, parse_requestPayload hr]
  · rw [exec_request hi, serviceFrame_requestFrame (wf_of_asRequest hi ▸ hwf)]

end Sys2Proof.Machine
end

section
/-! PROOF. O8: requests that are answered BAD_COMMAND and BAD_LENGTH. -/

namespace Sys2Proof.Machine

/-! ## Codes outside the table (R176) -/

/-- The code of a command of fixed length is the code of the request that numbers 0 make of it. -/
theorem exists_requestCode {n : Nat} {ws : List Nat} (h : fixedSizes n = some ws) : ∃ r, requestCode r = n := by
  have zeros : ∃ r, fixedRequest n (ws.map fun _ => 0) = some r ∧ requestCode r = n := by
    unfold fixedSizes at h
    split at h <;> cases h
    all_goals exact ⟨_, rfl, rfl⟩
  obtain ⟨r, -, hr⟩ := zeros
  exact ⟨r, hr⟩

theorem parse_badCommand {code : Nat} (h : ∀ r, requestCode r ≠ code) (payload : List Octet) :
    parse code payload = .badCommand := by
  have sizes : fixedSizes code = none := by
    refine Option.eq_none_iff_forall_ne_some.mpr fun ws hs => ?_
    obtain ⟨r, hr⟩ := exists_requestCode hs
    exact h r hr
  have post : code ≠ 16 := (h (.meterPost 0 0 none)).symm
  have write : code ≠ 98 := (h (.stageWrite 0 0 (.flag true))).symm
  simp only [parse, if_neg post, if_neg write, sizes]

/-! ## Payloads of a wrong length (R176) -/

/-- A METER_POST is 8 octets without its tag and 9 with one. -/
theorem parseMeterPost_badLength {payload : List Octet}
    (h : payload.length < 8 ∨ 9 < payload.length ∨ (payload.length = 8 ∧ payload[7]? = some 1) ∨
      (payload.length = 9 ∧ payload[7]? = some 0)) : parseMeterPost payload = .badLength 8 := by
  have length : (payload.drop 7).length = payload.length - 7 := List.length_drop
  have first : (payload.drop 7)[0]? = payload[7]? := by rw [List.getElem?_drop]
  unfold parseMeterPost
  dsimp only
  rcases hd : payload.drop 7 with _ | ⟨present, _ | ⟨tag, _ | ⟨x, xs⟩⟩⟩
  · rfl
  · rw [hd] at length first
    simp only [List.length_cons, List.length_nil] at length
    have hl : payload.length = 8 := by omega
    have hp : payload[7]? = some 1 := by simpa [hl] using h
    obtain rfl : present = 1 := Option.some.inj (first.trans hp)
    rfl
  · rw [hd] at length first
    simp only [List.length_cons, List.length_nil] at length
    have hl : payload.length = 9 := by omega
    have hp : payload[7]? = some 0 := by simpa [hl] using h
    obtain rfl : present = 0 := Option.some.inj (first.trans hp)
    rfl
  · rfl

section
variable {value : List Octet}

theorem parseValue_flag_misfit (h : value.length ≠ 1) : parseValue .flag value = some none := by
  rcases value with _ | ⟨o, _ | ⟨o', os⟩⟩
  · rfl
  · exact absurd rfl h
  · rfl

theorem parseValue_number_misfit {w low high : Nat} (h : value.length ≠ w) :
    parseValue (.number w low high) value = some none :=
  if_neg h

theorem parseValue_trim_misfit (h : value.length ≠ 2) : parseValue .trim value = some none := by
  rcases value with _ | ⟨o, _ | ⟨o', _ | ⟨o'', os⟩⟩⟩
  · rfl
  · rfl
  · exact absurd rfl h
  · rfl

theorem parseValue_ranks_misfit (h : value.length ≠ 4) : parseValue .ranks value = some none := if_neg h

theorem parseValue_entries_misfit
    (h : value = [] ∨ ∃ n items, value = n :: items ∧ n.toNat ≤ 6 ∧ items.length ≠ 3 * n.toNat) :
    parseValue .entries value = some none := by
  rcases h with rfl | ⟨n, items, rfl, hn, hl⟩
  · rfl
  · rw [parseValue, if_neg (by omega), if_neg hl]

theorem parseValue_text_misfit
    (h : value = [] ∨ ∃ n cs, value = n :: cs ∧ n.toNat ≤ 16 ∧ cs.length ≠ n.toNat) :
    parseValue .text value = some none := by
  rcases h with rfl | ⟨n, cs, rfl, hn, hl⟩
  · rfl
  · rw [parseValue, if_neg (by omega), if_neg hl]

end

/-- A STAGE_WRITE ends before its field number at the earliest. -/
theorem parseStageWrite_short {payload : List Octet}
    (h : payload = [] ∨ ∃ region, payload = [region] ∧ region.toNat ≤ 52) :
    parseStageWrite payload = .badLength 3 := by
  rcases h with rfl | ⟨region, rfl, hr⟩
  · rfl
  · exact if_neg (by omega)

theorem parseStageWrite_misfit {r : RegionNo} {field : Octet} {form : FieldForm} {value : List Octet}
    (hf : fieldForm (regionOf r).kind field.toNat = some form) (hv : parseValue form value = some none) :
    parseStageWrite (BitVec.ofNat 8 r.val :: field :: value) = .badLength 3 := by
  have region : (BitVec.ofNat 8 r.val).toNat = r.val := Nat.mod_eq_of_lt (by omega)
  have named : namedForm r.val field.toNat = some form := by rw [namedForm, dif_pos r.isLt, hf]
  simp only [parseStageWrite, region, if_neg (show ¬ 52 < r.val by omega), named, hv]

/-- Settles O8: what the frame is read as decides its answer. -/
theorem badCommandAndBadLength : Obligations.BadCommandAndBadLength := by
  refine fun p tag code payload s => ⟨fun h => ?command, fun hs => ?running⟩
  case command =>
    refine congrArg Host.Outcome.next ?_
    rw [serviceFrame, takeFrame_badCommand (parse_badCommand h payload)]
    rfl
  case running =>
    have refused {n : Nat} (h : parse code.toNat payload = .badLength n) :
        serviceFrame p ⟨tag, code, payload⟩ s =
          answer p ⟨tag, code, payload⟩ (refuse s .badLength (octets 2 payload.length ++ octets 2 n)) := by
      rw [serviceFrame, takeFrame_badLength hs h]
    refine ⟨fun ws hw hl => ?fixed, fun hc h => ?post, fun hc h => ?short,
      fun r field form value hc hp hf hm => ?misfit⟩
    case fixed => exact refused (parse_fixed_badLength hw hl)
    case post =>
      subst hc
      exact refused (parseMeterPost_badLength h)
    case short =>
      subst hc
      exact refused (parseStageWrite_short h)
    case misfit =>
      subst hc hp
      refine refused (parseStageWrite_misfit hf ?_)
      cases form with
      | flag => exact parseValue_flag_misfit hm
      | number w low high => exact parseValue_number_misfit hm
      | trim => exact parseValue_trim_misfit hm
      | entries => exact parseValue_entries_misfit hm
      | ranks => exact parseValue_ranks_misfit hm
      | text => exact parseValue_text_misfit hm

end Sys2Proof.Machine
end

section
/-! PROOF. O5: the octets of a frame, received one by one, lead to the taking of the frame. -/

namespace Sys2Proof.Machine

/-! ## The octets of a request frame (R173) -/

section
variable (fr : Frame)

/-- The octets of a request frame up to its check: start octet, tag, code, length and payload. -/
theorem requestOctets_eq :
    requestOctets fr =
      (167 :: frameBody fr.tag fr.code fr.payload) ++ crcOctets (crc16 (frameBody fr.tag fr.code fr.payload)) := rfl

theorem frameBody_length (tag code : Octet) (payload : List Octet) :
    (frameBody tag code payload).length = 4 + payload.length := by
  simp [frameBody]
  omega

theorem crcOctets_length (r : BitVec 16) : (crcOctets r).length = 2 := octets_length ..

theorem requestOctets_length : (requestOctets fr).length = 7 + fr.payload.length := by
  rw [requestOctets_eq, List.length_append, List.length_cons, frameBody_length, crcOctets_length]
  omega

/-- The fourth and fifth octets of a request frame, once received, declare the length of its payload. -/
theorem declaredLength_take {n : Nat} (hn : 5 ≤ n) (hl : fr.payload.length ≤ 1024) :
    declaredLength ((requestOctets fr).take n) = fr.payload.length := by
  have two : ((requestOctets fr).drop 3).take 2 = octets 2 fr.payload.length := by
    simp [requestOctets_eq, frameBody, octets_two]
  rw [declaredLength, List.drop_take, List.take_take, min_eq_left (by omega), two,
    number_octets_of_lt (by norm_num; omega)]

theorem progress_take {n : Nat} (hn : n < (requestOctets fr).length) (hl : fr.payload.length ≤ 1024) :
    progress ((requestOctets fr).take n) = .gathering := by
  have length : ((requestOctets fr).take n).length = n := List.length_take_of_le (by omega)
  rw [requestOctets_length] at hn
  unfold progress
  rw [length]
  split
  · rfl
  · rw [declaredLength_take fr (by omega) hl, if_neg (by omega), if_pos hn]

theorem progress_requestOctets (hl : fr.payload.length ≤ 1024) : progress (requestOctets fr) = .complete := by
  have length := requestOctets_length fr
  have declared := declaredLength_take fr (n := (requestOctets fr).length) (by omega) hl
  rw [List.take_length] at declared
  rw [progress, declared, length, if_neg (by omega), if_neg (by omega), if_neg (by omega)]

/-- A request frame passes its check and is read back as sent (R174). -/
theorem checkedFrame_requestOctets : checkedFrame (requestOctets fr) = some fr := by
  have body : ((requestOctets fr).drop 1).take ((requestOctets fr).length - 3) =
      frameBody fr.tag fr.code fr.payload := by
    rw [requestOctets_length, requestOctets_eq]
    exact List.take_left' (by rw [frameBody_length]; omega)
  have check : (requestOctets fr).drop ((requestOctets fr).length - 2) =
      crcOctets (crc16 (frameBody fr.tag fr.code fr.payload)) := by
    rw [requestOctets_length, requestOctets_eq]
    exact List.drop_left' (by rw [List.length_cons, frameBody_length]; omega)
  rw [checkedFrame, body, check]
  exact if_pos rfl

end

/-! ## The reception of a frame (R171, R175) -/

theorem step_pending {s : State} {c : Instr} {q : List Instr} (h : s.pending = c :: q) :
    step s = exec c { s with pending := q } := by
  rw [step, h]

/-- A run of a core goes on from the state that its first step leaves. -/
theorem run_next (M : Host.Core) (n : Nat) {s t : M.State} (h : M.step s = .next t) : M.run (n + 1) s = M.run n t := by
  rw [Host.Core.run, h]

/-- A run of the part takes the command at the front of its queue first. -/
theorem run_pending {s t : State} {c : Instr} {q : List Instr} (n : Nat) (h : s.pending = c :: q)
    (he : exec c { s with pending := q } = .next t) :
    Host.Core.run Sys2Proof.core (n + 1) s = Host.Core.run Sys2Proof.core n t :=
  run_next Sys2Proof.core n ((step_pending h).trans he)

/-- The port has received some octets of a frame just now, and has no request in service. -/
structure MidFrame (p : Port) (got : List Octet) (s : State) : Prop where
  receive : s.ports[p].receive = .receiving got s.clock
  mark : s.ports[p].atSpace = false
  idle : s.ports[p].service = none

theorem setReceive_midFrame {p : Port} {s : State} (got : List Octet) (mark : s.ports[p].atSpace = false)
    (idle : s.ports[p].service = none) : MidFrame p got (setReceive p (.receiving got s.clock) s) := by
  have port := setReceive_port p (.receiving got s.clock) s
  exact ⟨by rw [port]; rfl, by rwa [port], by rwa [port]⟩

section
variable {p : Port} {fr : Frame} {s : State} {got : List Octet} (h : MidFrame p got s)
include h

theorem MidFrame.exec_octet (o : Octet) : exec (.octetReceived p o true) s = .next (gatherOctet p (got ++ [o]) s) :=
  exec_octetReceived_receiving o h.mark h.receive (Nat.le_add_right ..)

/-- The last octet of a frame brings it into service. -/
theorem MidFrame.exec_last {o : Octet} (hf : got ++ [o] = requestOctets fr) (hl : fr.payload.length ≤ 1024) :
    exec (.octetReceived p o true) s = .next (serviceFrame p fr (setReceive p .hunting s)) := by
  have idle : (setReceive p .hunting s).ports[p].service = none := by
    rw [setReceive_port]
    exact h.idle
  rw [h.exec_octet, hf, gatherOctet_checked (progress_requestOctets fr hl) (checkedFrame_requestOctets fr),
    arrive_idle idle]

/-- An octet before the last joins the partial frame. -/
theorem MidFrame.exec_next {o : Octet} {todo : List Octet} (hf : got ++ [o] ++ todo = requestOctets fr)
    (ht : todo ≠ []) (hl : fr.payload.length ≤ 1024) :
    exec (.octetReceived p o true) s = .next (setReceive p (.receiving (got ++ [o]) s.clock) s) := by
  have part : (requestOctets fr).take (got ++ [o]).length = got ++ [o] := hf ▸ List.take_left' rfl
  have short : (got ++ [o]).length < (requestOctets fr).length := by
    rw [← hf, List.length_append (bs := todo)]
    exact Nat.lt_add_of_pos_right (List.length_pos_iff.mpr ht)
  rw [h.exec_octet, gatherOctet_gathering (part ▸ progress_take fr short hl)]

end

/-- The octets that a frame still lacks bring it into service. -/
theorem run_todo {p : Port} {fr : Frame} (hl : fr.payload.length ≤ 1024) (rest : List Instr) {o : Octet}
    {todo : List Octet} :
    ∀ {got : List Octet} {s : State}, MidFrame p got s → got ++ o :: todo = requestOctets fr →
      s.pending = (o :: todo).map (fun o => .octetReceived p o true) ++ rest →
      Host.Core.run Sys2Proof.core (todo.length + 1) s =
        .next (serviceFrame p fr (setReceive p .hunting { s with pending := rest })) := by
  induction todo generalizing o with
  | nil =>
    intro got s h hf hq
    have mid : MidFrame p got { s with pending := rest } := ⟨h.receive, h.mark, h.idle⟩
    exact run_pending 0 hq (mid.exec_last hf hl)
  | cons o' todo ih =>
    intro got s h hf hq
    have mid (q : List Instr) : MidFrame p got { s with pending := q } := ⟨h.receive, h.mark, h.idle⟩
    have hf' : got ++ [o] ++ o' :: todo = requestOctets fr := by rw [← hf, List.append_assoc, List.singleton_append]
    have first := run_pending (todo.length + 1) hq ((mid _).exec_next hf' (List.cons_ne_nil o' todo) hl)
    refine (first.trans (ih (setReceive_midFrame _ (mid _).mark (mid _).idle) hf' rfl)).trans ?_
    exact congrArg (fun u => Host.Outcome.next (serviceFrame p fr u))
      (setReceive_setReceive p (.receiving (got ++ [o]) s.clock) .hunting { s with pending := rest })

/-- Settles O5: the start octet is found in HUNTING, and the others complete the frame. -/
theorem octetsOfAFrameRunItsRequest : Obligations.OctetsOfAFrameRunItsRequest := by
  intro p fr s rest hr hm hs hl hq
  obtain ⟨tag, todo, hf⟩ : ∃ tag todo, requestOctets fr = [167] ++ tag :: todo := ⟨_, _, rfl⟩
  rw [hf] at hq ⊢
  have start (q : List Instr) : exec (.octetReceived p 167 true) { s with pending := q } =
      .next (setReceive p (.receiving [167] s.clock) { s with pending := q }) :=
    (exec_octetReceived_hunting (s := { s with pending := q }) 167 hm hr).trans (congrArg _ huntOctet_start)
  have first := run_pending (todo.length + 1) hq (start _)
  refine (first.trans (run_todo hl rest (setReceive_midFrame [167] hm hs) hf.symm rfl)).trans ?_
  exact congrArg (fun u => Host.Outcome.next (serviceFrame p fr u))
    ((setReceive_setReceive p (.receiving [167] s.clock) .hunting { s with pending := rest }).trans
      (setReceive_self hr))

end Sys2Proof.Machine
end

section
/-! PROOF. O15: the highest pending source, and what is still pending when it has left. -/

namespace Sys2Proof.Machine

/-! ## The highest pending source (R182, R183) -/

theorem levelOf_lt (k : Fin 19) : levelOf k < 4 := by
  unfold levelOf
  split_ifs <;> omega

section
variable {a : AlertRecord}

/-- Whether a source of a level is pending. -/
def AlertRecord.pendingAt (a : AlertRecord) (lev : Nat) (k : Fin 19) : Bool :=
  levelOf k == lev && (a.pending[k]).isSome

theorem pendingAt_iff {lev : Nat} {k : Fin 19} :
    a.pendingAt lev k = true ↔ levelOf k = lev ∧ a.pending[k] ≠ none := by
  rw [AlertRecord.pendingAt, Bool.and_eq_true, beq_iff_eq, Option.isSome_iff_ne_none]

/-- The search goes through the levels, and in each through the codes. -/
theorem highest_eq :
    a.highest = (List.finRange 4).findSome? fun lev => (List.finRange 19).find? (a.pendingAt lev) := by
  rw [AlertRecord.highest, ← List.map_coe_finRange_eq_range, List.findSome?_map]
  rfl

theorem find_pendingAt_eq_none {lev : Nat} (h : ∀ j : Fin 19, a.pending[j] ≠ none → levelOf j ≠ lev) :
    (List.finRange 19).find? (a.pendingAt lev) = none := by
  refine List.find?_eq_none.mpr fun j _ hj => ?_
  obtain ⟨hl, hp⟩ := pendingAt_iff.mp hj
  exact h j hp hl

/-- Within a level the lowest code is found. -/
theorem find_pendingAt_eq_some {k : Fin 19} (hk : a.pending[k] ≠ none)
    (first : ∀ j : Fin 19, a.pending[j] ≠ none → levelOf j = levelOf k → k ≤ j) :
    (List.finRange 19).find? (a.pendingAt (levelOf k)) = some k := by
  rw [List.find?_eq_findSome?_guard]
  refine findSome?_of_first _ k (Option.guard_eq_some_iff.mpr ⟨rfl, pendingAt_iff.mpr ⟨rfl, hk⟩⟩) _
    (List.pairwise_lt_finRange 19) (List.mem_finRange k) fun j hj => ?_
  refine Option.guard_eq_none_iff.mpr (Bool.eq_false_iff.mpr fun hb => ?_)
  obtain ⟨hl, hp⟩ := pendingAt_iff.mp hb
  exact absurd hj (Fin.not_lt.mpr (first j hp hl))

theorem highest_eq_none (h : ∀ j : Fin 19, a.pending[j] = none) : a.highest = none := by
  rw [highest_eq]
  exact List.findSome?_eq_none_iff.mpr fun _ _ => find_pendingAt_eq_none fun j hj => absurd (h j) hj

/-- R183: the pending source of lowest level and, within it, of lowest code is the one found. -/
theorem highest_eq_some {k : Fin 19} (hk : a.pending[k] ≠ none)
    (first : ∀ j : Fin 19, a.pending[j] ≠ none → levelOf k < levelOf j ∨ (levelOf k = levelOf j ∧ k ≤ j)) :
    a.highest = some k := by
  rw [highest_eq]
  refine findSome?_of_first _ ⟨levelOf k, levelOf_lt k⟩ (find_pendingAt_eq_some hk fun j hj hl => ?_) _
    (List.pairwise_lt_finRange 4) (List.mem_finRange _) fun lev hlev => find_pendingAt_eq_none fun j hj hl => ?_
  · rcases first j hj with h | ⟨-, h⟩
    · omega
    · exact h
  · have hlt : lev.val < levelOf k := hlev
    rcases first j hj with h | ⟨h, -⟩ <;> omega

/-! ## The count of what is pending (R183) -/

/-- A source that leaves the set is one fewer pending. -/
theorem count_of_left {k : Fin 19} (hk : a.pending[k] ≠ none) :
    ({ a with pending := a.pending.set k none } : AlertRecord).count = a.count - 1 := by
  have stays (j : Fin 19) : ((a.pending.set k none)[j]).isSome = ((a.pending[j]).isSome && j != k) := by
    rw [get_set]
    by_cases hj : k = j
    · subst hj
      simp
    · simp [hj, Ne.symm hj]
  simp only [AlertRecord.count, stays]
  rw [← List.countP_filter, ← (List.nodup_finRange 19).erase_eq_filter, List.countP_erase,
    if_pos ⟨List.mem_finRange k, Option.isSome_iff_ne_none.mpr hk⟩]

end

/-! ## ALERT_READ (R183) -/

section
variable {p : Port} {s : State}

theorem reqAlertRead_none (h : s.alerts[p].highest = none) : reqAlertRead p s = accept s [0, 0, 0] := by
  rw [reqAlertRead, h]
  rfl

theorem reqAlertRead_condition {k : Fin 19} {set : List Nat} (h : s.alerts[p].highest = some k)
    (hk : s.alerts[p].pending[k] = some set) (hc : isCondition k = true) :
    reqAlertRead p s =
      accept s (octets 1 1 ++ octets 1 k.val ++ listOf (octets 1) set ++ octets 1 s.alerts[p].count) := by
  simp only [reqAlertRead, h, hc, hk, if_true, Option.getD_some]

theorem reqAlertRead_event {k : Fin 19} {set : List Nat} (h : s.alerts[p].highest = some k)
    (hk : s.alerts[p].pending[k] = some set) (hc : isCondition k = false) :
    reqAlertRead p s =
      accept (s.setAlerts p { s.alerts[p] with pending := s.alerts[p].pending.set k none })
        (octets 1 1 ++ octets 1 k.val ++ listOf (octets 1) set ++ octets 1 (s.alerts[p].count - 1)) := by
  have left := count_of_left (a := s.alerts[p]) (k := k) (by rw [hk]; nofun)
  simp only [reqAlertRead, h, hc, hk, Bool.false_eq_true, if_false, Option.getD_some, setAlerts_alerts, if_true, left]

end

/-- Settles O15: the source of `highest_eq_some` is reported, and an event-kind one is no longer counted. -/
theorem alertReadTakesTheHighest : Obligations.AlertReadTakesTheHighest := by
  intro p tag s hr
  refine ⟨fun hnone => ?_, fun k set hk first => ?_⟩
  · exact congrArg Host.Outcome.next (serve_report hr (reqAlertRead_none (highest_eq_none hnone)))
  · have high : s.alerts[p].highest = some k := highest_eq_some (by rw [hk]; nofun) first
    exact ⟨fun hc => congrArg Host.Outcome.next (serve_report hr (reqAlertRead_condition high hk hc)),
      fun hc => congrArg Host.Outcome.next (serve_accept hr (reqAlertRead_event high hk hc))⟩

end Sys2Proof.Machine
end

section
/-! PROOF. O13 and O14: the writes of a save, its ends, and the image that its sixty writes leave. -/

namespace Sys2Proof.Machine

/-! ## Regions replaced one by one (R156, R189) -/

/-- A region taken over from another configuration is that one's, and every other region stays. -/
theorem Configuration.get_put_get (g h : Configuration) (x y : Region) :
    (g.put x (h.get x)).get y = if x = y then h.get x else g.get y := by
  cases x <;> cases y <;>
    simp only [Configuration.put, Configuration.get, get_set, Region.channel.injEq, Region.carrier.injEq,
      Region.furnace.injEq, Region.line.injEq, reduceCtorEq, if_true, if_false]
  all_goals
    split
    · next heq => rw [heq]
    · rfl

/-- A configuration is its regions. -/
theorem Configuration.ext_get {g h : Configuration} (hr : ∀ x, g.get x = h.get x) : g = h := by
  have channels : g.channels = h.channels :=
    Vector.ext fun i hi => RegionValue.channel.inj (hr (.channel ⟨i, hi⟩))
  have carriers : g.carriers = h.carriers :=
    Vector.ext fun i hi => RegionValue.carrier.inj (hr (.carrier ⟨i, hi⟩))
  have furnaces : g.furnaces = h.furnaces :=
    Vector.ext fun i hi => RegionValue.furnace.inj (hr (.furnace ⟨i, hi⟩))
  have lines : g.lines = h.lines :=
    Vector.ext fun i hi => RegionValue.line.inj (hr (.line ⟨i, hi⟩))
  have plant : g.plant = h.plant := RegionValue.plant.inj (hr .plant)
  cases g
  cases h
  simp_all only

/-- Every region has a number. -/
theorem regionOf_surjective : Function.Surjective regionOf
  | .channel c => ⟨⟨c.val, by omega⟩, by simp [regionOf]⟩
  | .carrier k => ⟨⟨32 + k.val, by omega⟩, by simp [regionOf]⟩
  | .furnace f => ⟨⟨36 + f.val, by omega⟩, by
    unfold regionOf
    dsimp only
    rw [dif_neg (by omega), dif_neg (by omega), dif_pos (by omega)]
    simp only [Nat.add_sub_cancel_left]⟩
  | .line l => ⟨⟨40 + l.val, by omega⟩, by
    unfold regionOf
    dsimp only
    rw [dif_neg (by omega), dif_neg (by omega), dif_neg (by omega), dif_pos (by omega)]
    simp only [Nat.add_sub_cancel_left]⟩
  | .plant => ⟨52, by simp [regionOf]⟩

/-! ## The sixty writes (R189) -/

section
variable (b : ImageBody) (i : Image)

theorem writeImage_first : writeImage b 0 i = { i with format := 0 } := rfl

theorem writeImage_region (r : RegionNo) :
    writeImage b (r.val + 1) i =
      { i with body := { i.body with config := i.body.config.put (regionOf r) (b.config.get (regionOf r)) } } := by
  unfold writeImage
  rw [if_neg (Nat.succ_ne_zero _), dif_pos (show r.val + 1 - 1 < 53 from r.isLt)]
  rfl

theorem writeImage_inventory (f : Furnace) :
    writeImage b (f.val + 54) i =
      { i with body := { i.body with inventories := i.body.inventories.set f b.inventories[f] } } := by
  unfold writeImage
  rw [if_neg (by omega), dif_neg (by omega), dif_pos (show f.val + 54 - 54 < 4 by omega)]
  simp only [Nat.add_sub_cancel]

theorem writeImage_check : writeImage b 58 i = { i with crc := imageCheck b } := rfl

theorem writeImage_last : writeImage b 59 i = { i with format := 1 } := rfl

end

/-- What the writes of a save before place `n` have put into the image. -/
structure WrittenTo (b : ImageBody) (n : Nat) (i : Image) : Prop where
  region : ∀ r : RegionNo, r.val + 1 < n → i.body.config.get (regionOf r) = b.config.get (regionOf r)
  inventory : ∀ f : Furnace, f.val + 54 < n → i.body.inventories[f] = b.inventories[f]
  check : 58 < n → i.crc = imageCheck b
  format : 59 < n → i.format = 1

/-- The image that a finished save of a snapshot leaves (R186). -/
def savedImage (b : ImageBody) : Image := { format := 1, body := b, crc := imageCheck b }

namespace WrittenTo
variable {b : ImageBody} {n : Nat} {i : Image}

theorem start (b : ImageBody) (i : Image) : WrittenTo b 0 i := ⟨nofun, nofun, nofun, nofun⟩

/-- A write keeps what the writes before it have put, and adds its own part. -/
theorem write (h : WrittenTo b n i) (hn : n < 60) : WrittenTo b (n + 1) (writeImage b n i) := by
  have place : n = 0 ∨ (∃ r : RegionNo, n = r.val + 1) ∨ (∃ f : Furnace, n = f.val + 54) ∨ n = 58 ∨ n = 59 := by
    by_cases hr : n - 1 < 53
    · by_cases h0 : n = 0
      · exact .inl h0
      · exact .inr (.inl ⟨⟨n - 1, hr⟩, by dsimp only; omega⟩)
    · by_cases hf : n - 54 < 4
      · exact .inr (.inr (.inl ⟨⟨n - 54, hf⟩, by dsimp only; omega⟩))
      · omega
  rcases place with rfl | ⟨r, rfl⟩ | ⟨f, rfl⟩ | rfl | rfl
  · rw [writeImage_first]
    exact ⟨by omega, by omega, by omega, by omega⟩
  · rw [writeImage_region]
    refine ⟨fun r' hr' => ?_, by omega, by omega, by omega⟩
    rw [Configuration.get_put_get]
    split
    · next heq => rw [heq]
    · next hne =>
      have : r.val ≠ r'.val := fun e => hne (congrArg regionOf (Fin.ext e))
      exact h.region r' (by omega)
  · rw [writeImage_inventory]
    refine ⟨fun r _ => h.region r (by omega), fun f' hf' => ?_, by omega, by omega⟩
    rw [get_set]
    split
    · next heq => rw [heq]
    · next hne =>
      have : f.val ≠ f'.val := fun e => hne (Fin.ext e)
      exact h.inventory f' (by omega)
  · rw [writeImage_check]
    exact ⟨fun r _ => h.region r (by omega), fun f _ => h.inventory f (by omega), fun _ => rfl, by omega⟩
  · rw [writeImage_last]
    exact ⟨fun r _ => h.region r (by omega), fun f _ => h.inventory f (by omega), fun _ => h.check (by omega),
      fun _ => rfl⟩

/-- With all sixty writes made nothing of the image before the save is left. -/
theorem finished (h : WrittenTo b 60 i) : i = savedImage b := by
  obtain ⟨format, ⟨config, inventories⟩, crc⟩ := i
  obtain ⟨regions, saved, check, last⟩ := h
  obtain rfl : config = b.config := Configuration.ext_get fun x => by
    obtain ⟨r, rfl⟩ := regionOf_surjective x
    exact regions r (by omega)
  obtain rfl : inventories = b.inventories := Vector.ext fun k hk => saved ⟨k, hk⟩ (by dsimp only; omega)
  obtain rfl : crc = imageCheck b := check (by omega)
  obtain rfl : format = 1 := last (by omega)
  rfl

end WrittenTo

/-! ## Acknowledgements and timeouts (R189, R190) -/

section
variable {s : State} {v : Save}

/-- A write that is not the last is done and the next one proceeds. -/
theorem exec_saveWriteAcknowledged_next (hv : s.save = some v) (hw : v.written < 59) :
    exec .saveWriteAcknowledged s =
      .next { s with
        image := writeImage v.snapshot v.written s.image,
        save := some { v with written := v.written + 1, accessDue := s.clock + 100 } } := by
  have more : v.written + 1 < saveWrites := Nat.succ_lt_succ hw
  refine congrArg Host.Outcome.next ?_
  rw [hv]
  exact if_pos more

/-- The sixtieth write ends the save. -/
theorem exec_saveWriteAcknowledged_last (hv : s.save = some v) (hw : v.written = 59) :
    exec .saveWriteAcknowledged s =
      .next { s with image := writeImage v.snapshot 59 s.image, save := none, loadFailed := false } := by
  have done : ¬ v.written + 1 < saveWrites := by rw [hw]; exact Nat.lt_irrefl 60
  refine congrArg Host.Outcome.next ?_
  rw [hv, ← hw]
  exact if_neg done

theorem exec_saveAccessTimeout_early (hv : s.save = some v) (hd : s.clock < v.accessDue) :
    exec .saveAccessTimeout s = .next s := by
  refine congrArg Host.Outcome.next ?_
  rw [hv]
  exact if_neg (Nat.not_le.mpr hd)

theorem exec_saveAccessTimeout_reached (hv : s.save = some v) (hd : v.accessDue ≤ s.clock) :
    exec .saveAccessTimeout s =
      .next (raise .saveFail none { s with save := none, image := { s.image with format := 0 } }) := by
  refine congrArg Host.Outcome.next ?_
  rw [hv]
  exact if_pos hd

/-- The writes of a save that are left, acknowledged one after the other, finish its image. -/
theorem run_acknowledgements {rest : List Instr} (n : Nat) (hv : s.save = some v) (hn : v.written + n = 59)
    (hp : s.pending = List.replicate (n + 1) .saveWriteAcknowledged ++ rest)
    (hw : WrittenTo v.snapshot v.written s.image) :
    Host.Core.run Sys2Proof.core (n + 1) s =
      .next { s with pending := rest, save := none, loadFailed := false, image := savedImage v.snapshot } := by
  induction n generalizing s v with
  | zero =>
    have last : v.written = 59 := hn
    have image := hw.write (by omega)
    rw [last] at image
    rw [run_pending 0 hp (exec_saveWriteAcknowledged_last hv last), image.finished]
    rfl
  | succ n ih =>
    rw [run_pending (n + 1) hp (exec_saveWriteAcknowledged_next hv (by omega))]
    exact ih (v := { v with written := v.written + 1, accessDue := s.clock + 100 }) rfl (by dsimp only; omega) rfl
      (hw.write (by omega))

end

/-- Settles O13, by the first, the last and every other write of a save. -/
theorem saveWritesAndTimeouts : Obligations.SaveWritesAndTimeouts := by
  intro s v hv
  refine ⟨exec_saveWriteAcknowledged_next hv, fun h0 t ht => ?_, exec_saveWriteAcknowledged_last hv,
    exec_saveAccessTimeout_early hv, exec_saveAccessTimeout_reached hv⟩
  have first := exec_saveWriteAcknowledged_next hv (h0 ▸ Nat.zero_lt_succ 58)
  rw [h0, writeImage_first] at first
  obtain rfl := Host.Outcome.next.inj (first.symm.trans ht)
  rfl

/-- Settles O14, by induction on the writes that are left: each keeps what the writes before it have put. -/
theorem completedSaveStoresItsSnapshot : Obligations.CompletedSaveStoresItsSnapshot := by
  intro s v rest hv h0 hp
  exact run_acknowledgements 59 hv (by omega) hp (h0 ▸ WrittenTo.start v.snapshot s.image)

end Sys2Proof.Machine
end

section
/-! PROOF. O60: the state right after reset meets the invariants. -/

namespace Sys2Proof.Machine

/-! ## The state after reset (R187) -/

/-- A hardware reset of the state after reset changes nothing. -/
theorem resetOf_reset : resetOf State.reset = State.reset := by
  have slots : (resetOf State.reset).slots = State.reset.slots := Vector.ext fun i hi => by
    have before : State.reset.slots[(⟨i, hi⟩ : Slot)] = SlotRecord.reset ⟨false, false, false, false⟩ :=
      get_replicate ..
    refine (resetOf_slot State.reset ⟨i, hi⟩).trans (Eq.trans ?_ before.symm)
    rw [before]
    rfl
  exact congrArg (fun x => { State.reset with slots := x }) slots

theorem reset_furnaces (f : Furnace) : State.reset.furnaces[f] = FurnaceRecord.reset := get_replicate ..

theorem reset_locks (r : RegionNo) : State.reset.locks[r] = { hold := none, waitList := [] } := get_replicate ..

theorem reset_portLocks (p : Port) : State.reset.portLocks[p] = { held := none, waited := none } := get_replicate ..

/-! ## Its invariants -/

/-- Every region is free and no port holds or waits (R157). -/
theorem locksAgree_reset : LocksAgree State.reset := by
  refine ⟨fun r => ?_, fun r => ?_, fun p => ?_⟩
  · rw [reset_locks]
  · rw [reset_locks]
    exact ⟨List.nodup_nil, nofun⟩
  · rw [reset_portLocks]
    exact ⟨nofun, nofun, .inl rfl⟩

/-- No furnace holds any glass (R63). -/
theorem queuesSound_reset : QueuesSound State.reset := fun f => by
  rw [reset_furnaces]
  exact FurnaceRecord.sound_of_empty rfl rfl rfl

/-- Every opening inventory, of the blank configuration and of the blank image, is 0 (R61; log entry 4). -/
theorem openingsInRange_reset : OpeningsInRange State.reset := by
  refine ⟨fun f => ?_, fun r h g hh => ?_, fun f => ?_, nofun⟩
  · have blank : State.reset.config.furnaces[f] = blankFurnace := get_replicate ..
    rw [blank]
    exact ⟨Nat.zero_le _, Nat.zero_le _⟩
  · rw [reset_locks] at hh
    exact absurd hh nofun
  · have blank : State.reset.image.body.inventories[f] = (0, 0) := get_replicate ..
    rw [blank]
    exact ⟨Nat.zero_le _, Nat.zero_le _⟩

theorem queuesOrdered_reset : QueuesOrdered State.reset := by
  refine (queuesOrdered_iff _).mpr ⟨fun f => ?_, openingsInRange_reset⟩
  rw [reset_furnaces]
  exact ⟨List.Pairwise.nil, nofun, Nat.zero_le _, Nat.zero_le _, Nat.zero_le _⟩

/-- No line is enabled (R88). -/
theorem linesFed_reset : LinesFed State.reset := fun l enabled => by
  have blank : State.reset.config.lines[l] = blankLine := get_replicate ..
  rw [blank] at enabled
  exact absurd enabled Bool.false_ne_true

/-- Settles O60: what a hardware reset establishes from any state holds of the state that it leaves alone. -/
theorem resetMeetsTheInvariants : Obligations.ResetMeetsTheInvariants :=
  ⟨resetOf_reset ▸ AttentionFollows.resetOf State.reset, resetOf_reset ▸ RingOrdered.resetOf State.reset,
    locksAgree_reset, resetOf_reset ▸ ProverAgrees.resetOf State.reset, widths_reset, queuesSound_reset,
    queuesOrdered_reset, linesFed_reset, resetOf_reset ▸ BooksBalance.resetOf State.reset⟩

end Sys2Proof.Machine
end

section
/-! PROOF. O1 and O3: a step runs the command at the front of the queue, and every command answers a next state. -/

namespace Sys2Proof.Machine

/-- Settles O1. -/
theorem stepRunsFrontCommand : Obligations.StepRunsFrontCommand := fun _ _ _ => step_pending

/-- Settles O3: a request is served, and each event's own effect is a next state. -/
theorem noCommandStops : Obligations.NoCommandStops := fun c s => by
  cases hr : c.asRequest with
  | some q => exact ⟨_, exec_request hr s⟩
  | none => cases c <;> exact ⟨_, rfl⟩

end Sys2Proof.Machine
end
